-- ==== Sys2Proof/Word.lean ====
section
/-! DEFINITION. The word types of FRAMER: bytes, 16-bit fields and 32-bit registers (spec/00_scope.md R7, R8). -/

namespace Sys2Proof

/-- A byte is 8 bits (R8). -/
abbrev Byte := BitVec 8

/-- An index, capacity or length field, or one group's value, is 16 bits (R7). -/
abbrev Half := BitVec 16

/-- A register is 32 bits (R7). -/
abbrev Word := BitVec 32

end Sys2Proof
end

