-- ==== Sys2Proof/Syntax.lean ====
section
/-! DEFINITION. The command set of FRAMER, one constructor for each row of spec/opcode_table.json, carrying the fields
of the command word that the row uses (spec/30_encoding.md R75). The data operand is the DATA_IN register, not part of
the command (R78). -/

namespace Sys2Proof

/-- The fourteen commands (spec/30_encoding.md R75). -/
inductive Instr
  /-- NOP, opcode 0x00 (R140). -/
  | nop
  /-- CRC_CALC, opcode 0x01; `len` is LEN, the byte count (R92). -/
  | crcCalc (len : Half)
  /-- CRC_CHECK, opcode 0x02 (R93). -/
  | crcCheck
  /-- TX_INIT, opcode 0x10; `ncmd` is NCMD and `cap` is LEN (R102). -/
  | txInit (ncmd : BitVec 2) (cap : Half)
  /-- TX_INIT_CMD, opcode 0x11; `ncmd` is NCMD and `cap` is LEN (R103). -/
  | txInitCmd (ncmd : BitVec 2) (cap : Half)
  /-- TX_ADD_CMD, opcode 0x12 (R104). -/
  | txAddCmd
  /-- TX_ADD_U16, opcode 0x13 (R105). -/
  | txAddU16
  /-- TX_ADD_U32, opcode 0x14 (R106). -/
  | txAddU32
  /-- TX_ADD_F32, opcode 0x15 (R107). -/
  | txAddF32
  /-- RX_INIT, opcode 0x20; `cap` is LEN (R122). -/
  | rxInit (cap : Half)
  /-- RX_SET_LEN, opcode 0x21; `n` is LEN (R123). -/
  | rxSetLen (n : Half)
  /-- RX_GET_U16, opcode 0x22 (R124). -/
  | rxGetU16
  /-- RX_GET_U32, opcode 0x23 (R125). -/
  | rxGetU32
  /-- RX_GET_F32, opcode 0x24 (R126). -/
  | rxGetF32
  deriving DecidableEq, Repr

end Sys2Proof
end

