-- ==== Sys2Proof/WellFormed.lean ====
section
/-! DEFINITION. Which commands a legal command word can stand for (spec/30_encoding.md R73, R76). -/

namespace Sys2Proof

/-- A command is well formed when a legal word encodes it: every field of the right width already fits, and the one
further check is that decode accepts only LEN <= 4 for CRC_CALC (R73). NCMD = 3 is well formed: it decodes, and the
TX_INIT and TX_INIT_CMD rules refuse it at execution (R72). -/
def Instr.wf : Instr → Bool
  | .crcCalc len => decide (len.toNat ≤ 4)
  | .nop | .crcCheck | .txInit _ _ | .txInitCmd _ _ | .txAddCmd | .txAddU16 | .txAddU32 | .txAddF32
  | .rxInit _ | .rxSetLen _ | .rxGetU16 | .rxGetU32 | .rxGetF32 => true

end Sys2Proof
end

