-- ==== Sys2Proof/Decode.lean ====
section
/-! DEFINITION. Decoding a 32-bit command word and encoding a command (spec/30_encoding.md R70 to R78). -/

namespace Sys2Proof

/-- Why a command word is illegal (R76). FRAMER itself reports every one of them as IllegalCommand. -/
inductive DecodeError
  /-- OP is not in R75. -/
  | reservedOpcode
  /-- RSV = w[15:10] is not 0. -/
  | reservedBits
  /-- NCMD is not 0 for an opcode that does not use it. -/
  | unusedNcmd
  /-- LEN is not 0 for an opcode that does not use it. -/
  | unusedLen
  /-- CRC_CALC with LEN > 4. -/
  | crcLength
  deriving DecidableEq, Repr

/-- What the decoder answers for a word: the command it stands for, or why it stands for none. -/
inductive Decoded
  | legal (i : Instr)
  | illegal (e : DecodeError)
  deriving DecidableEq, Repr

/-- OP, bits 7:0 (R70). -/
def opField (w : Word) : Byte := w.extractLsb' 0 8

/-- NCMD, bits 9:8 (R70). -/
def ncmdField (w : Word) : BitVec 2 := w.extractLsb' 8 2

/-- RSV, bits 15:10 (R70). -/
def rsvField (w : Word) : BitVec 6 := w.extractLsb' 10 6

/-- LEN, bits 31:16 (R70). -/
def lenField (w : Word) : Half := w.extractLsb' 16 16

/-- The opcodes that use NCMD (R72). -/
def usesNcmd (op : Byte) : Bool := op == 0x10 || op == 0x11

/-- The opcodes that use LEN (R73). -/
def usesLen (op : Byte) : Bool := op == 0x10 || op == 0x11 || op == 0x20 || op == 0x21 || op == 0x01

/-- The command an opcode names, with the fields it uses (R75). -/
def instrOf (op : Byte) (ncmd : BitVec 2) (len : Half) : Option Instr :=
  if op = 0x00 then some .nop
  else if op = 0x01 then some (.crcCalc len)
  else if op = 0x02 then some .crcCheck
  else if op = 0x10 then some (.txInit ncmd len)
  else if op = 0x11 then some (.txInitCmd ncmd len)
  else if op = 0x12 then some .txAddCmd
  else if op = 0x13 then some .txAddU16
  else if op = 0x14 then some .txAddU32
  else if op = 0x15 then some .txAddF32
  else if op = 0x20 then some (.rxInit len)
  else if op = 0x21 then some (.rxSetLen len)
  else if op = 0x22 then some .rxGetU16
  else if op = 0x23 then some .rxGetU32
  else if op = 0x24 then some .rxGetF32
  else none

/-- Decode (R76): the checks in the rule's order. It reads nothing but the word. -/
def decode (w : Word) : Decoded :=
  match instrOf (opField w) (ncmdField w) (lenField w) with
  | none => .illegal .reservedOpcode
  | some i =>
    if rsvField w ≠ 0 then .illegal .reservedBits
    else if usesNcmd (opField w) = false ∧ ncmdField w ≠ 0 then .illegal .unusedNcmd
    else if usesLen (opField w) = false ∧ lenField w ≠ 0 then .illegal .unusedLen
    else if opField w = 0x01 ∧ 4 < (lenField w).toNat then .illegal .crcLength
    else .legal i

/-- A command word from its fields: {LEN, RSV = 0, NCMD, OP} (R70). -/
def commandWord (op : Byte) (ncmd : BitVec 2) (len : Half) : Word :=
  len.setWidth 32 <<< 16 ||| ncmd.setWidth 32 <<< 8 ||| op.setWidth 32

/-- The command word of a command (R75, R79). -/
def encode : Instr → Word
  | .nop => commandWord 0x00 0 0
  | .crcCalc len => commandWord 0x01 0 len
  | .crcCheck => commandWord 0x02 0 0
  | .txInit ncmd cap => commandWord 0x10 ncmd cap
  | .txInitCmd ncmd cap => commandWord 0x11 ncmd cap
  | .txAddCmd => commandWord 0x12 0 0
  | .txAddU16 => commandWord 0x13 0 0
  | .txAddU32 => commandWord 0x14 0 0
  | .txAddF32 => commandWord 0x15 0 0
  | .rxInit cap => commandWord 0x20 0 cap
  | .rxSetLen n => commandWord 0x21 0 n
  | .rxGetU16 => commandWord 0x22 0 0
  | .rxGetU32 => commandWord 0x23 0 0
  | .rxGetF32 => commandWord 0x24 0 0

/-- The bits an opcode-table row gives, as a command word: every bit above `nbits` is 0. -/
def tableWord (nbits w : Nat) : Nat := w % 2 ^ nbits

/-- The command the decoder reads from a table word. A command is one 32-bit word (R78), so a wider number stands for
none (notes/assumptions/14.md). -/
def decodeTableWord (nbits w : Nat) : Option Instr :=
  if tableWord nbits w < 2 ^ 32 then
    match decode (BitVec.ofNat 32 (tableWord nbits w)) with
    | .legal i => some i
    | .illegal _ => none
  else none

end Sys2Proof
end

