-- ==== Sys2Proof/Machine/Crc.lean ====
section
/-! DEFINITION. The checksum function crc8 (spec/40_checksum.md R90, R91). -/

namespace Sys2Proof.Machine

/-- The CRC polynomial (R7). -/
def crcPoly : Byte := 0x31

/-- The CRC initial value (R7). -/
def crcInit : Byte := 0xFF

/-- One shift of the CRC register: most significant bit first, no reflection (R90). -/
def crcBit (c : Byte) : Byte := if c.msb then (c <<< 1) ^^^ crcPoly else c <<< 1

/-- `n` shifts of the CRC register. -/
def crcShift : Nat → Byte → Byte
  | 0, c => c
  | n + 1, c => crcShift n (crcBit c)

/-- One byte into the CRC register (R90). -/
def crcByte (c b : Byte) : Byte := crcShift 8 (c ^^^ b)

/-- crc8 (R90): no output reflection and no final XOR. -/
def crc8 (seq : List Byte) : Byte := seq.foldl crcByte crcInit

/-- The checksum of a group: its two data bytes, high byte first (R91). -/
def groupChecksum (high low : Byte) : Byte := crc8 [high, low]

end Sys2Proof.Machine
end

