-- ==== Sys2Proof/Config.lean ====
section
/-! DEFINITION. What a FRAMER instance fixes (its parameters, spec/00_scope.md R7 and spec/20_memory.md R50) and the
free values the spec leaves open (the buffer bytes after reset, R10 and R42). -/

namespace Sys2Proof

/-- The parameters of one FRAMER: `MAX_CAP` (R7) and `FRAMER_BASE` (R50). They are configuration, not state (R20):
a state carries them because `step` takes no other argument, and no step changes them.
DESIGN CHOICE (notes/assumptions/2.md), safe: claims range over every value of them. -/
structure Params where
  /-- `MAX_CAP`, the size in bytes of each buffer memory. -/
  maxCap : Nat
  /-- `FRAMER_BASE`, the host address of offset 0. -/
  base : Nat
  deriving DecidableEq, Repr

/-- The values the spec admits: `1 <= MAX_CAP <= 4096` (R7), `FRAMER_BASE` a multiple of 0x1000 (R50). -/
abbrev Params.wf (p : Params) : Prop := 1 ≤ p.maxCap ∧ p.maxCap ≤ 4096 ∧ p.base % 0x1000 = 0

/-- The instance `State.reset` names: MAX_CAP = 16, as spec/95_test_vectors.md takes for its vectors.
DESIGN CHOICE (notes/assumptions/2.md), unsafe for a claim about `State.reset` alone. -/
def Config.resetParams : Params := { maxCap := 16, base := 0x40000000 }

/-- The byte TXBUF[i] holds after the reset numbered `epoch` until it is written: unspecified, a free draw (R10, R42).
It has no body, so nothing can be proved of its value (notes/assumptions/3.md). -/
opaque Config.txDraw : (epoch : Nat) → (i : Nat) → Byte

/-- The byte RXBUF[i] holds after the reset numbered `epoch` until it is written: unspecified, a free draw (R10, R42). -/
opaque Config.rxDraw : (epoch : Nat) → (i : Nat) → Byte

end Sys2Proof
end

