-- ==== Sys2Proof/Machine/State.lean ====
section
/-! DEFINITION. The state of FRAMER (spec/10_state.md R20), the host's accesses, the reasons a step stops, and the
state after reset (R42). -/

namespace Sys2Proof.Machine

/-- The bytes of one buffer memory written since reset, as (offset, byte) pairs in canonical form (`Memory.wf`).
An offset not listed holds no written byte; what it reads as is the free draw (notes/assumptions/3.md and 4.md). -/
abbrev Memory := List Host.Cell

/-- One host access at an absolute address, `FRAMER_BASE + off` (spec/20_memory.md R50, spec/30_encoding.md R79), of any
width in bits (R52, R53). A write carries as many bits as it is wide. Its offset in FRAMER is that of its address, its
first byte (notes/assumptions/15.md). -/
inductive Access
  | read (bits addr : Nat)
  | write (bits addr : Nat) (v : BitVec bits)
  deriving DecidableEq, Repr

/-- What can happen to FRAMER from outside, one at a time (R13, R63, R164, R180). -/
inductive HostEvent
  /-- An access of the one host. -/
  | access (a : Access)
  /-- The reset input is asserted and released between two accesses (R180). -/
  | reset
  /-- An access of a second host, which a model must refuse (R164). -/
  | secondHost (a : Access)
  deriving DecidableEq, Repr

/-- What the host port answers to an access that completes. -/
inductive Answer
  /-- The data of a 32-bit read. -/
  | word (v : Word)
  /-- The data of an 8-bit read. -/
  | byte (v : Byte)
  /-- A write has completed. -/
  | done
  deriving DecidableEq, Repr

/-- Which clause of R54 an access falls under. The host sees one error response whatever the cause: the causes and
which one is named when several apply are the model's (notes/assumptions/5.md). -/
inductive BusErrorCause
  /-- An access at an unmapped offset (R50). -/
  | unmapped
  /-- A width R52 or R53 forbids. -/
  | badWidth
  /-- A register access at an offset that is not a multiple of 4 (R52). -/
  | misaligned
  /-- A write to a read-only register. -/
  | readOnlyRegister
  /-- A write to the TX window (R55). -/
  | readOnlyWindow
  deriving DecidableEq, Repr

/-- Why a step ends in a fault. -/
inductive Fault
  /-- The host's access gets a bus error (R54): raised by the host port, for an access and never for a command. `data`
  is what a read returns with the error response, always 0x00000000. FRAMER's state is the state before the access.
  Safe: the model stops where the host may go on (notes/assumptions/5.md). -/
  | busError (cause : BusErrorCause) (data : Word)
  deriving DecidableEq, Repr

/-- Why a step is refused. -/
inductive Refusal
  /-- An instruction with no meaning yet: raised by `exec`'s arms alone. No arm of this model raises it. Safe. -/
  | notModelled (mnemonic : String)
  /-- An access at an address outside FRAMER's 0x3000 bytes (R50): another device's, whose behaviour the spec does not
  give. Raised by the host port. Safe (notes/assumptions/6.md). -/
  | outsideFramer (addr : Nat)
  /-- A second host drives FRAMER: outside the spec, and a model must refuse it (R164). Raised by the host port. Safe. -/
  | secondHost
  deriving DecidableEq, Repr

/-- The state. The first fourteen fields are the elements of R20, all of them; the last four are the model's own. -/
structure State where
  /-- CMD (R23). -/
  cmd : Word
  /-- DATA_IN (R24). -/
  dataIn : Word
  /-- STATUS (R25): ERR_OFFSET 31:16, LAST_OP 15:8, reserved 7:4, CODE 3:0. -/
  status : Word
  /-- RESULT (R26). -/
  result : Word
  /-- TX_CONFIGURED (R35). -/
  txConfigured : Bool
  /-- TX_NCMD (R27). -/
  txNcmd : BitVec 2
  /-- TX_INDEX (R28). -/
  txIndex : Half
  /-- TX_CAP (R29). -/
  txCap : Half
  /-- RX_CONFIGURED (R35). -/
  rxConfigured : Bool
  /-- RX_INDEX (R31). -/
  rxIndex : Half
  /-- RX_CAP (R32). -/
  rxCap : Half
  /-- RX_NUMBYTES (R33). -/
  rxNumBytes : Half
  /-- TXBUF (R40): the bytes written since reset. -/
  txbuf : Memory
  /-- RXBUF (R40): the bytes written since reset. -/
  rxbuf : Memory
  /-- The model's own: the parameters (notes/assumptions/2.md). -/
  cfg : Params
  /-- The model's own: the number of the reset whose draws the unwritten buffer bytes hold (notes/assumptions/3.md). -/
  epoch : Nat
  /-- The model's own: the host events not yet taken, oldest first (notes/assumptions/1.md). -/
  pending : List HostEvent
  /-- The model's own: the answer to the last access (notes/assumptions/10.md). -/
  answer : Option Answer
  deriving DecidableEq, Repr

/-- The state right after reset number `epoch` of a FRAMER with parameters `p` (R42): all registers and bits are 0 and
no buffer byte has been written. -/
def State.resetWith (p : Params) (epoch : Nat) (pending : List HostEvent) : State where
  cmd := 0
  dataIn := 0
  status := 0
  result := 0
  txConfigured := false
  txNcmd := 0
  txIndex := 0
  txCap := 0
  rxConfigured := false
  rxIndex := 0
  rxCap := 0
  rxNumBytes := 0
  txbuf := []
  rxbuf := []
  cfg := p
  epoch := epoch
  pending := pending
  answer := none

/-- The machine right after reset (R42), for the instance of `Config.resetParams`, with no host event pending. -/
def State.reset : State := State.resetWith Config.resetParams 0 []

end Sys2Proof.Machine
end

