-- ==== Sys2Proof/Machine/Flags.lean ====
section
/-! DEFINITION. STATUS, the one condition report of FRAMER (spec/10_state.md R25, R44; spec/60_exceptions.md R150 to
R154), and the computed STATE field (R38). -/

namespace Sys2Proof.Machine

/-- The error kinds (R150). -/
inductive ErrorKind
  | bufferOverflow
  | insufficientData
  | checksumMismatch
  | invalidConfiguration
  | illegalCommand
  deriving DecidableEq, Repr

/-- The code of a success (R151). -/
def okCode : BitVec 4 := 0

/-- The code of each error kind (R151). -/
def ErrorKind.code : ErrorKind → BitVec 4
  | .bufferOverflow => 1
  | .insufficientData => 2
  | .checksumMismatch => 3
  | .invalidConfiguration => 4
  | .illegalCommand => 5

/-- STATUS from its fields, {ERR_OFFSET, LAST_OP, 0, CODE}: bits 31:16, 15:8, 7:4 and 3:0 (R25). -/
def statusWord (errOffset : Half) (lastOp : Byte) (code : BitVec 4) : Word :=
  errOffset.setWidth 32 <<< 16 ||| lastOp.setWidth 32 <<< 8 ||| code.setWidth 32

/-- STATUS.CODE (R25). -/
def statusCode (v : Word) : BitVec 4 := v.extractLsb' 0 4

/-- STATUS[7:4], reserved (R25). -/
def statusReserved (v : Word) : BitVec 4 := v.extractLsb' 4 4

/-- STATUS.LAST_OP (R25). -/
def statusLastOp (v : Word) : Byte := v.extractLsb' 8 8

/-- STATUS.ERR_OFFSET (R25). -/
def statusErrOffset (v : Word) : Half := v.extractLsb' 16 16

/-- STATE = UNCONFIGURED (R38). -/
def stUnconfigured : BitVec 2 := 0

/-- STATE = FRESH (R38). -/
def stFresh : BitVec 2 := 1

/-- STATE = ACTIVE (R38). -/
def stActive : BitVec 2 := 2

/-- STATE = EXHAUSTED (R38). -/
def stExhausted : BitVec 2 := 3

/-- The STATE field of a channel (R38), computed at each read: EXHAUSTED before FRESH. -/
def channelState (configured : Bool) (index limit : Half) : BitVec 2 :=
  if configured = false then stUnconfigured
  else if index = limit then stExhausted
  else if index = 0 then stFresh
  else stActive

/-- STATE of the TX channel: LIMIT is TX_CAP (R38). -/
def State.txState (s : State) : BitVec 2 := channelState s.txConfigured s.txIndex s.txCap

/-- STATE of the RX channel: LIMIT is RX_NUMBYTES (R38). -/
def State.rxState (s : State) : BitVec 2 := channelState s.rxConfigured s.rxIndex s.rxNumBytes

end Sys2Proof.Machine
end

