-- ==== Sys2Proof/Machine/Operands.lean ====
section
/-! DEFINITION. The operand forms of DATA_IN (spec/30_encoding.md R74), and the groups of a value (spec/20_memory.md
R57, R58). Bits a form does not take are ignored. -/

namespace Sys2Proof.Machine

/-- The high byte of a group value or of a 2-byte command code (R57, R59). -/
def highByte (d : Half) : Byte := d.extractLsb' 8 8

/-- The low byte of a group value or of a command code (R57, R59). -/
def lowByte (d : Half) : Byte := d.extractLsb' 0 8

/-- The group value {h, l} (R57, R121). -/
def groupValue (h l : Byte) : Half := h.setWidth 16 <<< 8 ||| l.setWidth 16

/-- CRC_CALC: byte `j` of `n` is `DATA_IN[8*(n-j)-1 : 8*(n-j)-8]`, most significant first (R74, R92). -/
def crcCalcBytes (n : Nat) (d : Word) : List Byte := (List.range n).map fun j => d.extractLsb' (8 * (n - 1 - j)) 8

/-- CRC_CHECK: the data high byte, `DATA_IN[23:16]` (R74). -/
def checkHigh (d : Word) : Byte := d.extractLsb' 16 8

/-- CRC_CHECK: the data low byte, `DATA_IN[15:8]` (R74). -/
def checkLow (d : Word) : Byte := d.extractLsb' 8 8

/-- CRC_CHECK: the received checksum, `DATA_IN[7:0]` (R74). -/
def checkCrc (d : Word) : Byte := d.extractLsb' 0 8

/-- TX_INIT_CMD and TX_ADD_CMD: the command code, `DATA_IN[15:0]` (R74). -/
def commandCode (d : Word) : Half := d.extractLsb' 0 16

/-- Group `k` of a value of `G` groups: bits `[16*(G-k)-1 : 16*(G-k)-16]` (R58, R101). -/
def groupOf (v : Word) (G k : Nat) : Half := v.extractLsb' (16 * (G - 1 - k)) 16

/-- The groups of a value of `G` groups, in ascending buffer order (R58). One group is `v[15:0]`, two are `v[31:16]`
and `v[15:0]`. -/
def valueGroups (v : Word) (G : Nat) : List Half := (List.range G).map (groupOf v G)

end Sys2Proof.Machine
end

