-- ==== Sys2Proof/Machine/Ops.lean ====
section
/-! DEFINITION. The shared operations: buffer memories, register updates, and how a command ends (`ok` and `raise`,
spec/60_exceptions.md R152, R153). -/

namespace Sys2Proof.Machine

/-! ## Buffer memories -/

/-- The byte written last at an offset since reset, if any. -/
def Memory.lookup (a : Nat) : Memory → Option Byte
  | [] => none
  | (a', b) :: m => if a = a' then some b else Memory.lookup a m

/-- Write one byte, keeping the canonical form. -/
def Memory.write (a : Nat) (b : Byte) : Memory → Memory
  | [] => [(a, b)]
  | (a', b') :: m =>
    if a < a' then (a, b) :: (a', b') :: m
    else if a = a' then (a, b) :: m
    else (a', b') :: Memory.write a b m

/-- The offsets rise strictly from `lo` on and stay below `limit`. -/
def Memory.wfFrom (lo limit : Nat) : Memory → Bool
  | [] => true
  | (a, _) :: m => decide (lo ≤ a) && decide (a < limit) && Memory.wfFrom (a + 1) limit m

/-- The canonical form of a buffer of `limit` bytes. An unlisted offset holds no written byte, so no entry equals what
an unlisted offset holds (notes/assumptions/4.md). -/
def Memory.wf (limit : Nat) (m : Memory) : Bool := Memory.wfFrom 0 limit m

/-- TXBUF[i] (R40): the byte written last, or the free draw of this reset (R10, R63). -/
def State.readTx (s : State) (i : Nat) : Byte := (Memory.lookup i s.txbuf).getD (Config.txDraw s.epoch i)

/-- RXBUF[i] (R40): the byte written last, or the free draw of this reset (R10, R63). -/
def State.readRx (s : State) (i : Nat) : Byte := (Memory.lookup i s.rxbuf).getD (Config.rxDraw s.epoch i)

/-- MemWrite(TX, i, 1, b) (R9). -/
def State.writeTx (s : State) (i : Nat) (b : Byte) : State := { s with txbuf := Memory.write i b s.txbuf }

/-- The host's write of RXBUF[i] through the RX window (R51). -/
def State.writeRx (s : State) (i : Nat) (b : Byte) : State := { s with rxbuf := Memory.write i b s.rxbuf }

/-! ## Register updates -/

/-- CMD <- w (R23). -/
def State.setCmd (s : State) (w : Word) : State := { s with cmd := w }

/-- DATA_IN <- v (R24). -/
def State.setDataIn (s : State) (v : Word) : State := { s with dataIn := v }

/-- RESULT <- v (R26). -/
def State.setResult (s : State) (v : Word) : State := { s with result := v }

/-- TX_INDEX <- v (R28). -/
def State.setTxIndex (s : State) (v : Half) : State := { s with txIndex := v }

/-- RX_INDEX <- v (R31). -/
def State.setRxIndex (s : State) (v : Half) : State := { s with rxIndex := v }

/-- RX_NUMBYTES <- n and RX_INDEX <- 0 (R123). -/
def State.setRxLen (s : State) (n : Half) : State := { s with rxNumBytes := n, rxIndex := 0 }

/-- The TX channel becomes configured, at index 0 (R102, R103). -/
def State.txConfigure (s : State) (n : BitVec 2) (cap : Half) : State :=
  { s with txConfigured := true, txNcmd := n, txCap := cap, txIndex := 0 }

/-- The TX channel becomes unconfigured (R43). -/
def State.txUnconfigure (s : State) : State :=
  { s with txConfigured := false, txNcmd := 0, txIndex := 0, txCap := 0 }

/-- The RX channel becomes configured, at index 0 with no bytes received (R122). -/
def State.rxConfigure (s : State) (cap : Half) : State :=
  { s with rxConfigured := true, rxCap := cap, rxIndex := 0, rxNumBytes := 0 }

/-- The RX channel becomes unconfigured (R43). -/
def State.rxUnconfigure (s : State) : State :=
  { s with rxConfigured := false, rxIndex := 0, rxNumBytes := 0, rxCap := 0 }

/-- The host port answers the access. -/
def State.setAnswer (s : State) (a : Answer) : State := { s with answer := some a }

/-- The host events still to take. -/
def State.setPending (s : State) (es : List HostEvent) : State := { s with pending := es }

/-! ## The end of a command

FRAMER has no trap entry and no trap return (R157, R158): the report in STATUS is the whole of an error, and the host
goes on with its next access. -/

/-- `ok()`: STATUS <- {ERR_OFFSET = 0, LAST_OP = CMD[7:0], CODE = 0} (R152). -/
def State.ok (s : State) : State := { s with status := statusWord 0 (s.cmd.extractLsb' 0 8) okCode }

/-- `raise E(off)`: STATUS <- {ERR_OFFSET = off[15:0], LAST_OP = CMD[7:0], CODE = code(E)}, and nothing else (R153). -/
def State.raise (s : State) (e : ErrorKind) (off : Nat) : State :=
  { s with status := statusWord (BitVec.ofNat 16 off) (s.cmd.extractLsb' 0 8) e.code }

end Sys2Proof.Machine
end

