-- ==== Sys2Proof/Machine/Checksum.lean ====
section
/-! DEFINITION. The checksum commands (spec/40_checksum.md R92, R93). -/

namespace Sys2Proof.Machine

/-- CRC_CALC (R92). A count above 4 is no legal command (R73): decode refuses it, and the meaning, which a step never
reaches with one, reports the same IllegalCommand (notes/assumptions/12.md). -/
def execCrcCalc (len : Half) (s : State) : Host.Outcome State Fault Refusal :=
  if 4 < len.toNat then .next (s.raise .illegalCommand 0)
  else .next (s.setResult ((crc8 (crcCalcBytes len.toNat s.dataIn)).setWidth 32)).ok

/-- CRC_CHECK (R93). -/
def execCrcCheck (s : State) : Host.Outcome State Fault Refusal :=
  if groupChecksum (checkHigh s.dataIn) (checkLow s.dataIn) ≠ checkCrc s.dataIn then
    .next (s.raise .checksumMismatch 0)
  else .next (s.setResult ((checkCrc s.dataIn).setWidth 32)).ok

end Sys2Proof.Machine
end

