-- ==== Sys2Proof/Machine/Control.lean ====
section
/-! DEFINITION. The control command (spec/43_control.md R140). -/

namespace Sys2Proof.Machine

/-- NOP: `ok()` (R140). -/
def execNop (s : State) : Host.Outcome State Fault Refusal := .next s.ok

end Sys2Proof.Machine
end

