-- ==== Sys2Proof/Machine/Rx.lean ====
section
/-! DEFINITION. The RX frame decoder commands (spec/42_rx_decoder.md R120 to R126). -/

namespace Sys2Proof.Machine

/-- rx_group(o) (R121): the group's value, or none where its checksum differs. -/
def rxGroup (s : State) (o : Nat) : Option Half :=
  if groupChecksum (s.readRx o) (s.readRx (o + 1)) ≠ s.readRx (o + 2) then none
  else some (groupValue (s.readRx o) (s.readRx (o + 1)))

/-- What the group loop of rx_get ends with (R120). -/
inductive Gathered
  /-- Every group is valid: the assembled value. -/
  | value (v : Word)
  /-- The first group that fails starts at this offset. -/
  | mismatch (off : Nat)
  deriving DecidableEq, Repr

/-- The group loop of rx_get (R120): `G` groups from offset `o` on, in ascending order, into the accumulator `v`. -/
def rxGather (s : State) : (G o : Nat) → (v : Word) → Gathered
  | 0, _, v => .value v
  | G + 1, o, v =>
    match rxGroup s o with
    | none => .mismatch o
    | some d => rxGather s G (o + 3) ((v <<< 16) ||| d.setWidth 32)

/-- rx_get(G) (R120): every check and every group first, then the writes. -/
def rxGet (G : Nat) (s : State) : State :=
  if s.rxConfigured = false then s.raise .invalidConfiguration 0
  else if s.rxNumBytes.toNat - s.rxIndex.toNat < 3 * G then s.raise .insufficientData 0
  else
    match rxGather s G s.rxIndex.toNat 0 with
    | .mismatch off => s.raise .checksumMismatch off
    | .value v => ((s.setResult v).setRxIndex (s.rxIndex + BitVec.ofNat 16 (3 * G))).ok

/-- RX_INIT (R122). -/
def execRxInit (cap : Half) (s : State) : Host.Outcome State Fault Refusal :=
  if s.cfg.maxCap < cap.toNat then .next (s.rxUnconfigure.raise .invalidConfiguration 0)
  else .next (s.rxConfigure cap).ok

/-- RX_SET_LEN (R123). -/
def execRxSetLen (n : Half) (s : State) : Host.Outcome State Fault Refusal :=
  if s.rxConfigured = false then .next (s.raise .invalidConfiguration 0)
  else if s.rxCap.toNat < n.toNat then .next (s.raise .invalidConfiguration 0)
  else .next (s.setRxLen n).ok

/-- RX_GET_U16 (R124). -/
def execRxGetU16 (s : State) : Host.Outcome State Fault Refusal := .next (rxGet 1 s)

/-- RX_GET_U32 (R125). -/
def execRxGetU32 (s : State) : Host.Outcome State Fault Refusal := .next (rxGet 2 s)

/-- RX_GET_F32 (R126): the pattern is not inspected. -/
def execRxGetF32 (s : State) : Host.Outcome State Fault Refusal := .next (rxGet 2 s)

end Sys2Proof.Machine
end

