-- ==== Sys2Proof/Machine/Tx.lean ====
section
/-! DEFINITION. The TX frame builder commands (spec/41_tx_builder.md R100 to R107). -/

namespace Sys2Proof.Machine

/-- tx_write_cmd(c) (R100). -/
def txWriteCmd (c : Half) (s : State) : State :=
  if s.txNcmd = 2 then ((s.writeTx 0 (highByte c)).writeTx 1 (lowByte c)).setTxIndex (s.txNcmd.setWidth 16)
  else (s.writeTx 0 (lowByte c)).setTxIndex (s.txNcmd.setWidth 16)

/-- One group at offset `o`: high byte, low byte, checksum (R57, R91, R101). -/
def txWriteGroup (d : Half) (o : Nat) (s : State) : State :=
  ((s.writeTx o (highByte d)).writeTx (o + 1) (lowByte d)).writeTx (o + 2) (groupChecksum (highByte d) (lowByte d))

/-- Groups one after another from offset `o` on (R101). -/
def txWriteGroups : List Half → Nat → State → State
  | [], _, s => s
  | d :: ds, o, s => txWriteGroups ds (o + 3) (txWriteGroup d o s)

/-- tx_add(v, G) (R101): every check first, then all the writes. -/
def txAdd (v : Word) (G : Nat) (s : State) : State :=
  if s.txConfigured = false then s.raise .invalidConfiguration 0
  else if 0 < s.txNcmd.toNat ∧ s.txIndex.toNat < s.txNcmd.toNat then s.raise .invalidConfiguration 0
  else if s.txCap.toNat - s.txIndex.toNat < 3 * G then s.raise .bufferOverflow 0
  else ((txWriteGroups (valueGroups v G) s.txIndex.toNat s).setTxIndex (s.txIndex + BitVec.ofNat 16 (3 * G))).ok

/-- TX_INIT (R102). -/
def execTxInit (n : BitVec 2) (cap : Half) (s : State) : Host.Outcome State Fault Refusal :=
  if n = 3 ∨ s.cfg.maxCap < cap.toNat ∨ cap.toNat < n.toNat then
    .next (s.txUnconfigure.raise .invalidConfiguration 0)
  else .next (s.txConfigure n cap).ok

/-- TX_INIT_CMD (R103). -/
def execTxInitCmd (n : BitVec 2) (cap : Half) (s : State) : Host.Outcome State Fault Refusal :=
  if n = 0 ∨ n = 3 ∨ s.cfg.maxCap < cap.toNat ∨ cap.toNat < n.toNat then
    .next (s.txUnconfigure.raise .invalidConfiguration 0)
  else .next (txWriteCmd (commandCode s.dataIn) (s.txConfigure n cap)).ok

/-- TX_ADD_CMD (R104). -/
def execTxAddCmd (s : State) : Host.Outcome State Fault Refusal :=
  if s.txConfigured = false then .next (s.raise .invalidConfiguration 0)
  else if s.txNcmd = 0 then .next (s.raise .invalidConfiguration 0)
  else if s.txIndex ≠ 0 then .next (s.raise .invalidConfiguration 0)
  else .next (txWriteCmd (commandCode s.dataIn) s).ok

/-- TX_ADD_U16 (R105). -/
def execTxAddU16 (s : State) : Host.Outcome State Fault Refusal := .next (txAdd s.dataIn 1 s)

/-- TX_ADD_U32 (R106). -/
def execTxAddU32 (s : State) : Host.Outcome State Fault Refusal := .next (txAdd s.dataIn 2 s)

/-- TX_ADD_F32 (R107): the pattern is not inspected. -/
def execTxAddF32 (s : State) : Host.Outcome State Fault Refusal := .next (txAdd s.dataIn 2 s)

end Sys2Proof.Machine
end

