-- ==== Sys2Proof/Machine/Dispatch.lean ====
section
/-! DEFINITION. The rule each command performs (spec/30_encoding.md R75). -/

namespace Sys2Proof.Machine

def exec (i : Instr) (s : State) : Host.Outcome State Fault Refusal :=
  match i with
  | .nop => Sys2Proof.Machine.execNop s
  | .crcCalc len => Sys2Proof.Machine.execCrcCalc len s
  | .crcCheck => Sys2Proof.Machine.execCrcCheck s
  | .txInit ncmd cap => Sys2Proof.Machine.execTxInit ncmd cap s
  | .txInitCmd ncmd cap => Sys2Proof.Machine.execTxInitCmd ncmd cap s
  | .txAddCmd => Sys2Proof.Machine.execTxAddCmd s
  | .txAddU16 => Sys2Proof.Machine.execTxAddU16 s
  | .txAddU32 => Sys2Proof.Machine.execTxAddU32 s
  | .txAddF32 => Sys2Proof.Machine.execTxAddF32 s
  | .rxInit cap => Sys2Proof.Machine.execRxInit cap s
  | .rxSetLen n => Sys2Proof.Machine.execRxSetLen n s
  | .rxGetU16 => Sys2Proof.Machine.execRxGetU16 s
  | .rxGetU32 => Sys2Proof.Machine.execRxGetU32 s
  | .rxGetF32 => Sys2Proof.Machine.execRxGetF32 s

end Sys2Proof.Machine
end

