-- ==== Sys2Proof/Machine/Port.lean ====
section
/-! DEFINITION. The host port: the register map and the windows (spec/20_memory.md R50 to R56), command dispatch
(spec/43_control.md R141), bus errors (R54) and reset (spec/70_reset_and_hazards.md R180). -/

namespace Sys2Proof.Machine

/-! ## The map -/

/-- The host-visible registers (spec/10_state.md R23 to R34). -/
inductive Reg
  | cmd | dataIn | status | result | txCtrl | txIndex | txCap | rxCtrl | rxIndex | rxCap | rxNumBytes | id
  deriving DecidableEq, Repr

/-- The offset of each register (R50). -/
def Reg.offset : Reg → Nat
  | .cmd => 0x000
  | .dataIn => 0x004
  | .status => 0x008
  | .result => 0x00C
  | .txCtrl => 0x010
  | .txIndex => 0x014
  | .txCap => 0x018
  | .rxCtrl => 0x020
  | .rxIndex => 0x024
  | .rxCap => 0x028
  | .rxNumBytes => 0x02C
  | .id => 0x030

/-- Every register. -/
def Reg.all : List Reg :=
  [.cmd, .dataIn, .status, .result, .txCtrl, .txIndex, .txCap, .rxCtrl, .rxIndex, .rxCap, .rxNumBytes, .id]

/-- The bytes of the host's address space FRAMER occupies (R50). -/
def spanBytes : Nat := 0x3000

/-- The offset of the TX window (R50). -/
def txWindowOffset : Nat := 0x1000

/-- The offset of the RX window (R50). -/
def rxWindowOffset : Nat := 0x2000

/-- What an offset of the map holds (R50). -/
inductive Region
  /-- A register, at its offset. -/
  | register (r : Reg)
  /-- Inside the registers' range, at an offset that is not a multiple of 4. -/
  | misaligned
  /-- TXBUF[i]. -/
  | txWindow (i : Nat)
  /-- RXBUF[i]. -/
  | rxWindow (i : Nat)
  | unmapped
  deriving DecidableEq, Repr

/-- The address map (R50, R51). -/
def region (maxCap off : Nat) : Region :=
  if off < txWindowOffset then
    match Reg.all.find? (fun r => r.offset == off) with
    | some r => .register r
    | none => if off < 0x034 ∧ off % 4 ≠ 0 then .misaligned else .unmapped
  else if off < rxWindowOffset then
    if off - txWindowOffset < maxCap then .txWindow (off - txWindowOffset) else .unmapped
  else if off < spanBytes then
    if off - rxWindowOffset < maxCap then .rxWindow (off - rxWindowOffset) else .unmapped
  else .unmapped

/-- The FRAMER revision in ID[31:24] (R34). -/
def revision : Byte := 0x01

/-- The value a register reads as (R23 to R34): reserved bits read as 0. -/
def readReg (s : State) : Reg → Word
  | .cmd => s.cmd
  | .dataIn => s.dataIn
  | .status => s.status
  | .result => s.result
  | .txCtrl => s.txNcmd.setWidth 32 <<< 4 ||| s.txState.setWidth 32
  | .txIndex => s.txIndex.setWidth 32
  | .txCap => s.txCap.setWidth 32
  | .rxCtrl => s.rxState.setWidth 32
  | .rxIndex => s.rxIndex.setWidth 32
  | .rxCap => s.rxCap.setWidth 32
  | .rxNumBytes => s.rxNumBytes.setWidth 32
  | .id => revision.setWidth 32 <<< 24 ||| (BitVec.ofNat 16 s.cfg.maxCap).setWidth 32

/-! ## Commands -/

/-- A host write of `w` to CMD (R141): CMD <- w, then the rule of the command, or IllegalCommand. -/
def command (w : Word) (s : State) : Host.Outcome State Fault Refusal :=
  match decode w with
  | .legal i => exec i (s.setCmd w)
  | .illegal _ => .next ((s.setCmd w).raise .illegalCommand 0)

/-! ## Accesses -/

/-- A bus error (R54): no state changes and no command is performed; a read returns 0x00000000 with it. -/
def busError (c : BusErrorCause) : Host.Outcome State Fault Refusal := .fault (.busError c 0)

/-- A host read of `bits` bits at an offset (R50 to R54, R56): 32 bits of a register, 8 bits of a window. It only
answers. -/
def portRead (bits off : Nat) (s : State) : Host.Outcome State Fault Refusal :=
  match region s.cfg.maxCap off with
  | .unmapped => busError .unmapped
  | .register r => if bits = 32 then .next (s.setAnswer (.word (readReg s r))) else busError .badWidth
  | .misaligned => if bits = 32 then busError .misaligned else busError .badWidth
  | .txWindow i => if bits = 8 then .next (s.setAnswer (.byte (s.readTx i))) else busError .badWidth
  | .rxWindow i => if bits = 8 then .next (s.setAnswer (.byte (s.readRx i))) else busError .badWidth

/-- A 32-bit host write to a register: CMD starts a command, DATA_IN stores, every other register is read only (R23, R24,
R54). -/
def writeReg (r : Reg) (v : Word) (s : State) : Host.Outcome State Fault Refusal :=
  match r with
  | .cmd => command v (s.setAnswer .done)
  | .dataIn => .next ((s.setAnswer .done).setDataIn v)
  | .status | .result | .txCtrl | .txIndex | .txCap | .rxCtrl | .rxIndex | .rxCap | .rxNumBytes | .id =>
    busError .readOnlyRegister

/-- A host write of `bits` bits at an offset (R50 to R56): 32 bits of a register, 8 bits of the RX window. `setWidth`
changes nothing where the width is the one its branch allows. -/
def portWrite (bits off : Nat) (v : BitVec bits) (s : State) : Host.Outcome State Fault Refusal :=
  match region s.cfg.maxCap off with
  | .unmapped => busError .unmapped
  | .register r => if bits = 32 then writeReg r (v.setWidth 32) s else busError .badWidth
  | .misaligned => if bits = 32 then busError .misaligned else busError .badWidth
  | .txWindow _ => if bits = 8 then busError .readOnlyWindow else busError .badWidth
  | .rxWindow i => if bits = 8 then .next ((s.setAnswer .done).writeRx i (v.setWidth 8)) else busError .badWidth

/-- The offset of an address inside FRAMER (R50). -/
def offsetOf (p : Params) (addr : Nat) : Option Nat :=
  if p.base ≤ addr ∧ addr < p.base + spanBytes then some (addr - p.base) else none

/-- The address an access is at. -/
def Access.addr : Access → Nat
  | .read _ addr | .write _ addr _ => addr

/-- The width of an access in bits. -/
def Access.bits : Access → Nat
  | .read bits _ | .write bits _ _ => bits

/-- One host access. An address outside FRAMER is another device's (notes/assumptions/6.md). -/
def portAccess (a : Access) (s : State) : Host.Outcome State Fault Refusal :=
  match offsetOf s.cfg a.addr with
  | none => .refused (.outsideFramer a.addr)
  | some off =>
    match a with
    | .read bits _ => portRead bits off s
    | .write bits _ v => portWrite bits off v s

/-! ## Reset -/

/-- The reset input, asserted and released (R180): registers as R42 says, and fresh draws in both buffers. -/
def State.resetInput (s : State) : State := State.resetWith s.cfg (s.epoch + 1) s.pending

/-! ## One host event -/

/-- What one host event does (R13, R63, R164, R180). -/
def hostEvent (e : HostEvent) (s : State) : Host.Outcome State Fault Refusal :=
  match e with
  | .access a => portAccess a s
  | .reset => .next s.resetInput
  | .secondHost _ => .refused .secondHost

/-- Take the oldest pending event (R63). With none pending FRAMER holds its state (R142, R168). -/
def takeEvent (s : State) : Host.Outcome State Fault Refusal :=
  match s.pending with
  | [] => .next s
  | e :: es => hostEvent e (s.setPending es)

/-- The host write that brings a command word to CMD: the pending event a command is taken from. -/
def commandEvent (p : Params) (w : Word) : HostEvent := .access (.write 32 (p.base + Reg.cmd.offset) w)

end Sys2Proof.Machine
end

