-- ==== Sys2Proof/Machine/Step.lean ====
section
/-! DEFINITION. One step: the oldest pending host event is taken (spec/20_memory.md R63, notes/assumptions/1.md). -/

namespace Sys2Proof.Machine

/-- One step of the machine. -/
def step (s : State) : Host.Outcome State Fault Refusal := takeEvent s

/-- The state with the table word put where the next step takes its command from: as the oldest pending event, a host
write of the word to CMD. Nothing else changes. -/
def State.withFetchWord (s : State) (nbits w : Nat) : State :=
  s.setPending (commandEvent s.cfg (BitVec.ofNat 32 (tableWord nbits w)) :: s.pending)

/-- The state from which a host that goes on after a bus error or a refusal takes its next access: the access is over,
and nothing of FRAMER has changed (R54). `step` stops there; this names the state it leaves. -/
def State.afterBusError (s : State) : State := { s with pending := s.pending.tail, answer := none }

end Sys2Proof.Machine
end

