-- ==== Sys2Proof/Safety.lean ====
section
/-! DEFINITION. What holds of FRAMER in every state between host accesses, and which host accesses are safe, in the
terms the claims use. -/

namespace Sys2Proof.Machine

/-- The TX invariants, clause by clause (spec/10_state.md R36). -/
structure TxInv (s : State) : Prop where
  index_le_cap : s.txIndex.toNat ≤ s.txCap.toNat
  cap_le_maxCap : s.txCap.toNat ≤ s.cfg.maxCap
  ncmd_le_two : s.txNcmd.toNat ≤ 2
  configured : s.txConfigured = true →
    s.txNcmd.toNat ≤ s.txCap.toNat ∧ (s.txIndex = 0 ∨ s.txNcmd.toNat ≤ s.txIndex.toNat)
  unconfigured : s.txConfigured = false → s.txIndex = 0 ∧ s.txCap = 0 ∧ s.txNcmd = 0
  whole_groups : s.txIndex = 0 ∨ ∃ k : Nat, s.txIndex.toNat = s.txNcmd.toNat + 3 * k

/-- The RX invariants, clause by clause (R37). -/
structure RxInv (s : State) : Prop where
  index_le_numBytes : s.rxIndex.toNat ≤ s.rxNumBytes.toNat
  numBytes_le_cap : s.rxNumBytes.toNat ≤ s.rxCap.toNat
  cap_le_maxCap : s.rxCap.toNat ≤ s.cfg.maxCap
  whole_groups : ∃ k : Nat, s.rxIndex.toNat = 3 * k
  unconfigured : s.rxConfigured = false → s.rxIndex = 0 ∧ s.rxNumBytes = 0 ∧ s.rxCap = 0

/-- What STATUS may hold (R25, R151): a produced code, reserved bits 0, LAST_OP the opcode byte of the last word
written to CMD, and an offset only beside ChecksumMismatch. -/
structure StatusInv (s : State) : Prop where
  code_le : (statusCode s.status).toNat ≤ 5
  reserved : statusReserved s.status = 0
  lastOp : statusLastOp s.status = s.cmd.extractLsb' 0 8
  errOffset : statusCode s.status ≠ 3 → statusErrOffset s.status = 0

/-- Both buffer memories are in canonical form and hold only offsets below MAX_CAP (R40, notes/assumptions/4.md). -/
structure BufferInv (s : State) : Prop where
  txbuf : Memory.wf s.cfg.maxCap s.txbuf = true
  rxbuf : Memory.wf s.cfg.maxCap s.rxbuf = true

/-- The outgoing frame, TXBUF[0..TX_INDEX-1] (spec/20_memory.md R69). -/
def State.txFrame (s : State) : List Byte := (List.range s.txIndex.toNat).map s.readTx

/-- The accesses no clause of R54 refuses, listed from R50 to R55: a 32-bit read of a register, an 8-bit read of a
window byte, a 32-bit write of CMD or DATA_IN, and an 8-bit write of an RX window byte. -/
def Access.allowed (p : Params) : Access → Prop
  | .read bits addr =>
    (bits = 32 ∧ ∃ off ∈ [0x000, 0x004, 0x008, 0x00C, 0x010, 0x014, 0x018, 0x020, 0x024, 0x028, 0x02C, 0x030],
      addr = p.base + off) ∨
    (bits = 8 ∧ ∃ i < p.maxCap, addr = p.base + 0x1000 + i ∨ addr = p.base + 0x2000 + i)
  | .write bits addr _ =>
    (bits = 32 ∧ (addr = p.base + 0x000 ∨ addr = p.base + 0x004)) ∨
    (bits = 8 ∧ ∃ i < p.maxCap, addr = p.base + 0x2000 + i)

/-- A host program is safe when FRAMER's one host makes only allowed accesses: no step of it is a fault or a refusal. -/
def HostEvent.safe (p : Params) : HostEvent → Prop
  | .access a => a.allowed p
  | .reset => True
  | .secondHost _ => False

end Sys2Proof.Machine
end

