-- ==== Sys2Proof/Certificates/Slice0/Obligations.lean ====
section
/-! DEFINITION. The statements for the provers, from the numbered rules of spec/. -/

namespace Sys2Proof.Claims

open Sys2Proof.Machine

/-! ## Words the statements use -/

/-- A host write of `w` to CMD, at `FRAMER_BASE + 0x000`. -/
def cmdWrite (p : Params) (w : Word) : HostEvent := .access (.write 32 (p.base + 0x000) w)

/-- A host write of `v` to DATA_IN, at `FRAMER_BASE + 0x004`. -/
def dataInWrite (p : Params) (v : Word) : HostEvent := .access (.write 32 (p.base + 0x004) v)

/-- The host writes of RX_LOAD (R80) before its RX_SET_LEN: the bytes into RXBUF from offset 0 on. -/
def rxLoad (p : Params) (bytes : List Byte) : List HostEvent :=
  bytes.zipIdx.map fun x => .access (.write 8 (p.base + 0x2000 + x.2) x.1)

/-- STATUS after a command performed at `s` (R25, R152, R153). -/
def report (s : State) (off : Half) (code : BitVec 4) : Word := statusWord off (s.cmd.extractLsb' 0 8) code

/-- The words whose OP is `op` are legal exactly when `rest` holds of them, and then stand for `mk` of them; a write of
one of the others to CMD reports IllegalCommand, and nothing else of FRAMER changes (R76). -/
def DecodesAs (op : Byte) (rest : Word → Prop) (mk : Word → Instr) : Prop :=
  ∀ w : Word, w.extractLsb' 0 8 = op →
    (rest w → decode w = .legal (mk w)) ∧
    (¬ rest w → (∃ e, decode w = .illegal e) ∧
      ∀ (s : State) (es : List HostEvent), s.pending = cmdWrite s.cfg w :: es →
        step s = .next { s with pending := es, answer := some .done, cmd := w, status := statusWord 0 op 5 })

/-- NCMD, RSV and LEN are 0. -/
def bareWord (w : Word) : Prop := w.extractLsb' 8 24 = 0

/-- NCMD and RSV are 0. -/
def lenWord (w : Word) : Prop := w.extractLsb' 8 8 = 0

/-- RSV is 0. -/
def ncmdLenWord (w : Word) : Prop := w.extractLsb' 10 6 = 0

/-- NCMD of a word. -/
def ncmdOf (w : Word) : BitVec 2 := w.extractLsb' 8 2

/-- LEN of a word. -/
def lenOf (w : Word) : Half := w.extractLsb' 16 16

/-- The bytes with bit `k` of the sequence flipped (bit `k % 8` of byte `k / 8`). -/
def flipBit (k : Nat) (bytes : List Byte) : List Byte :=
  bytes.zipIdx.map fun x => if x.2 = k / 8 then x.1 ^^^ (1#8 <<< (k % 8)) else x.1

/-- The three bytes of a group (R57, R91). -/
def groupBytes (d : Half) : List Byte :=
  [d.extractLsb' 8 8, d.extractLsb' 0 8, crc8 [d.extractLsb' 8 8, d.extractLsb' 0 8]]

/-- The six TX commands. -/
def isTx : Instr → Bool
  | .txInit _ _ | .txInitCmd _ _ | .txAddCmd | .txAddU16 | .txAddU32 | .txAddF32 => true
  | .nop | .crcCalc _ | .crcCheck | .rxInit _ | .rxSetLen _ | .rxGetU16 | .rxGetU32 | .rxGetF32 => false

/-- The two commands that configure the TX channel. -/
def isTxInit : Instr → Bool
  | .txInit _ _ | .txInitCmd _ _ => true
  | .txAddCmd | .txAddU16 | .txAddU32 | .txAddF32
  | .nop | .crcCalc _ | .crcCheck | .rxInit _ | .rxSetLen _ | .rxGetU16 | .rxGetU32 | .rxGetF32 => false

/-- The five commands R55 names as writing TXBUF. -/
def writesTxbuf : Instr → Bool
  | .txInitCmd _ _ | .txAddCmd | .txAddU16 | .txAddU32 | .txAddF32 => true
  | .txInit _ _ | .nop | .crcCalc _ | .crcCheck | .rxInit _ | .rxSetLen _ | .rxGetU16 | .rxGetU32 | .rxGetF32 => false

/-- The three get commands. -/
def isRxGet : Instr → Bool
  | .rxGetU16 | .rxGetU32 | .rxGetF32 => true
  | .rxInit _ | .rxSetLen _ | .txInit _ _ | .txInitCmd _ _ | .txAddCmd | .txAddU16 | .txAddU32 | .txAddF32
  | .nop | .crcCalc _ | .crcCheck => false

/-- The command that configures the RX channel. -/
def isRxInit : Instr → Bool
  | .rxInit _ => true
  | .rxSetLen _ | .rxGetU16 | .rxGetU32 | .rxGetF32 | .txInit _ _ | .txInitCmd _ _ | .txAddCmd | .txAddU16 | .txAddU32
  | .txAddF32 | .nop | .crcCalc _ | .crcCheck => false

/-- The two commands that write RX_NUMBYTES. -/
def setsRxLen : Instr → Bool
  | .rxInit _ | .rxSetLen _ => true
  | .rxGetU16 | .rxGetU32 | .rxGetF32 | .txInit _ _ | .txInitCmd _ _ | .txAddCmd | .txAddU16 | .txAddU32
  | .txAddF32 | .nop | .crcCalc _ | .crcCheck => false

/-- The five commands that produce a value in RESULT (R26). -/
def producesResult : Instr → Bool
  | .crcCalc _ | .crcCheck | .rxGetU16 | .rxGetU32 | .rxGetF32 => true
  | .rxInit _ | .rxSetLen _ | .txInit _ _ | .txInitCmd _ _ | .txAddCmd | .txAddU16 | .txAddU32 | .txAddF32
  | .nop => false

/-- How many low bits of DATA_IN a command reads (R74). -/
def dataInBits (s : State) : Instr → Nat
  | .crcCalc len => 8 * len.toNat
  | .crcCheck => 24
  | .txInitCmd n _ => if n = 2 then 16 else if n = 1 then 8 else 0
  | .txAddCmd => if s.txNcmd = 2 then 16 else if s.txNcmd = 1 then 8 else 0
  | .txAddU16 => 16
  | .txAddU32 | .txAddF32 => 32
  | .nop | .txInit _ _ | .rxInit _ | .rxSetLen _ | .rxGetU16 | .rxGetU32 | .rxGetF32 => 0

/-- One value to append to a frame. -/
inductive Item
  | u16 (v : Half)
  | u32 (v : Word)
  | f32 (v : Word)
  deriving DecidableEq, Repr

/-- The host accesses that append it (R79): its operand to DATA_IN, then its command to CMD. -/
def Item.events (p : Params) : Item → List HostEvent
  | .u16 v => [dataInWrite p (v.setWidth 32), cmdWrite p 0x00000013]
  | .u32 v => [dataInWrite p v, cmdWrite p 0x00000014]
  | .f32 v => [dataInWrite p v, cmdWrite p 0x00000015]

/-- The bytes it adds to the frame (R58). -/
def Item.bytes : Item → List Byte
  | .u16 v => groupBytes v
  | .u32 v | .f32 v => groupBytes (v.extractLsb' 16 16) ++ groupBytes (v.extractLsb' 0 16)

end Sys2Proof.Claims

open Sys2Proof Sys2Proof.Machine Sys2Proof.Claims

/-! ## Encoding -/

/-- Words written out from R79 and the vectors of 95_test_vectors.md §2.3 decode as the spec says. -/
def Obligations.DecodesWrittenOutWords : Prop :=
  decode 0x00000000 = .legal .nop ∧ decode 0x00040001 = .legal (.crcCalc 4) ∧ decode 0x00000002 = .legal .crcCheck ∧
  decode 0x00050210 = .legal (.txInit 2 5) ∧ decode 0x000B0211 = .legal (.txInitCmd 2 11) ∧
  decode 0x00000012 = .legal .txAddCmd ∧ decode 0x00000013 = .legal .txAddU16 ∧ decode 0x00000014 = .legal .txAddU32 ∧
  decode 0x00000015 = .legal .txAddF32 ∧ decode 0x00090020 = .legal (.rxInit 9) ∧
  decode 0x00060021 = .legal (.rxSetLen 6) ∧ decode 0x00000022 = .legal .rxGetU16 ∧
  decode 0x00000023 = .legal .rxGetU32 ∧ decode 0x00000024 = .legal .rxGetF32 ∧
  decode 0x00000310 = .legal (.txInit 3 0) ∧
  decode 0x00000400 = .illegal .reservedBits ∧ decode 0x00010000 = .illegal .unusedLen ∧
  decode 0x00000003 = .illegal .reservedOpcode ∧ decode 0x000000FF = .illegal .reservedOpcode ∧
  decode 0x00000113 = .illegal .unusedNcmd ∧ decode 0x00000120 = .illegal .unusedNcmd ∧
  decode 0x00008010 = .illegal .reservedBits ∧ decode 0x00050001 = .illegal .crcLength

/-- Every well-formed command's word decodes to that command, with every operand at every value. -/
def Obligations.DecodeOfEncodeIsTheCommand : Prop := ∀ i : Instr, i.wf = true → decode (encode i) = .legal i

/-- Every legal word is the word of the well-formed command it decodes to: no bit of it goes unread. -/
def Obligations.EncodeOfDecodeIsTheWord : Prop :=
  ∀ (w : Word) (i : Instr), decode w = .legal i → encode i = w ∧ i.wf = true

/-- The legal words are those the pseudocode of R76 lets through. -/
def Obligations.LegalWordsAreThoseOfTheDecodeRule : Prop :=
  ∀ w : Word, (∃ i, decode w = .legal i) ↔
    (w.extractLsb' 0 8).toNat ∈
      [0x00, 0x01, 0x02, 0x10, 0x11, 0x12, 0x13, 0x14, 0x15, 0x20, 0x21, 0x22, 0x23, 0x24] ∧
    w.extractLsb' 10 6 = 0 ∧
    ((w.extractLsb' 0 8).toNat ∉ [0x10, 0x11] → w.extractLsb' 8 2 = 0) ∧
    ((w.extractLsb' 0 8).toNat ∉ [0x10, 0x11, 0x20, 0x21, 0x01] → w.extractLsb' 16 16 = 0) ∧
    ((w.extractLsb' 0 8).toNat = 0x01 → (w.extractLsb' 16 16).toNat ≤ 4)

/-! ## The host port -/

/-- A pending write of a legal word to CMD: the step is the command's meaning, at the state where the access is taken
and answered and CMD holds the word (R23, R141). That accesses wait in `pending` is the model's form (log 1). -/
def Obligations.StepRunsTheDecodedCommand : Prop :=
  ∀ (s : State) (w : Word) (es : List HostEvent) (i : Instr),
    s.pending = cmdWrite s.cfg w :: es → decode w = .legal i →
    step s = exec i { s with pending := es, answer := some .done, cmd := w }

/-- A pending write of an illegal word to CMD: CMD holds it, STATUS reports IllegalCommand, and nothing else of FRAMER
changes (R76, R77, R141). -/
def Obligations.IllegalWordOnlyReports : Prop :=
  ∀ (s : State) (w : Word) (es : List HostEvent) (e : DecodeError),
    s.pending = cmdWrite s.cfg w :: es → decode w = .illegal e →
    step s = .next { s with pending := es, answer := some .done, cmd := w,
                            status := statusWord 0 (w.extractLsb' 0 8) 5 }

/-- Every write to CMD completes, whatever the word and the state, and leaves a whole report in STATUS (R23, R25,
R141, R151). -/
def Obligations.EveryCommandWriteCompletesAndReports : Prop :=
  ∀ (s : State) (w : Word) (es : List HostEvent), s.pending = cmdWrite s.cfg w :: es →
    ∃ t, step s = .next t ∧ t.pending = es ∧ t.cmd = w ∧ t.dataIn = s.dataIn ∧
      t.status.extractLsb' 8 8 = w.extractLsb' 0 8 ∧ t.status.extractLsb' 4 4 = 0 ∧
      (t.status.extractLsb' 0 4).toNat ≤ 5 ∧
      (t.status.extractLsb' 0 4 ≠ 3 → t.status.extractLsb' 16 16 = 0)

/-- With no access pending FRAMER holds its state (R142, R168; that a step is then allowed is the model's, log 9). -/
def Obligations.IdleFramerHoldsItsState : Prop := ∀ s : State, s.pending = [] → step s = .next s

/-- A 32-bit read of each register answers its value, reserved bits 0, and changes nothing else (R23 to R34, R50). -/
def Obligations.RegisterReadsAnswerTheirValue : Prop :=
  ∀ (s : State) (es : List HostEvent) (off : Nat) (v : Word), s.cfg.wf →
    (off, v) ∈
      [(0x000, s.cmd), (0x004, s.dataIn), (0x008, s.status), (0x00C, s.result),
       (0x010, BitVec.ofNat 32 (16 * s.txNcmd.toNat + s.txState.toNat)),
       (0x014, BitVec.ofNat 32 s.txIndex.toNat), (0x018, BitVec.ofNat 32 s.txCap.toNat),
       (0x020, BitVec.ofNat 32 s.rxState.toNat), (0x024, BitVec.ofNat 32 s.rxIndex.toNat),
       (0x028, BitVec.ofNat 32 s.rxCap.toNat), (0x02C, BitVec.ofNat 32 s.rxNumBytes.toNat),
       (0x030, BitVec.ofNat 32 (0x01000000 + s.cfg.maxCap))] →
    s.pending = .access (.read 32 (s.cfg.base + off)) :: es →
    step s = .next { s with pending := es, answer := some (.word v) }

/-- The STATE fields of both channels, as TX_CTRL and RX_CTRL read (R38). -/
def Obligations.StateFieldsFollowTheirRule : Prop :=
  ∀ (s : State) (tx rx : BitVec 2),
    tx = (readReg s .txCtrl).extractLsb' 0 2 → rx = (readReg s .rxCtrl).extractLsb' 0 2 →
    (s.txConfigured = false → tx = 0) ∧ (s.rxConfigured = false → rx = 0) ∧
    (s.txConfigured = true →
      (s.txIndex = s.txCap → tx = 3) ∧
      (s.txIndex ≠ s.txCap → s.txIndex = 0 → tx = 1) ∧
      (s.txIndex ≠ s.txCap → s.txIndex ≠ 0 → tx = 2)) ∧
    (s.rxConfigured = true →
      (s.rxIndex = s.rxNumBytes → rx = 3) ∧
      (s.rxIndex ≠ s.rxNumBytes → s.rxIndex = 0 → rx = 1) ∧
      (s.rxIndex ≠ s.rxNumBytes → s.rxIndex ≠ 0 → rx = 2))

/-- The windows: a byte read of either buffer, and a byte write of RXBUF, which changes that byte alone (R51). -/
def Obligations.WindowAccessesReachTheBuffers : Prop :=
  ∀ (s : State) (es : List HostEvent) (i : Nat) (b : Byte), s.cfg.wf → i < s.cfg.maxCap →
    (s.pending = .access (.read 8 (s.cfg.base + 0x1000 + i)) :: es →
      step s = .next { s with pending := es, answer := some (.byte (s.readTx i)) }) ∧
    (s.pending = .access (.read 8 (s.cfg.base + 0x2000 + i)) :: es →
      step s = .next { s with pending := es, answer := some (.byte (s.readRx i)) }) ∧
    (s.pending = .access (.write 8 (s.cfg.base + 0x2000 + i) b) :: es →
      ∃ t, step s = .next t ∧ t.readRx i = b ∧ (∀ a, a ≠ i → t.readRx a = s.readRx a) ∧
        (∀ a, t.readTx a = s.readTx a) ∧
        t = { s with pending := es, answer := some .done, rxbuf := t.rxbuf })

/-- A write to DATA_IN stores its word and has no other effect (R24). -/
def Obligations.DataInWriteOnlyStores : Prop :=
  ∀ (s : State) (es : List HostEvent) (v : Word), s.pending = dataInWrite s.cfg v :: es →
    step s = .next { s with pending := es, answer := some .done, dataIn := v }

/-- Every access that R54 does not refuse succeeds (R67). -/
def Obligations.AllowedAccessesSucceed : Prop :=
  ∀ (s : State) (es : List HostEvent) (a : Access), s.cfg.wf → s.pending = .access a :: es → a.allowed s.cfg →
    ∃ t, step s = .next t ∧ t.pending = es

/-- Every other access inside FRAMER, of whatever width, gets a bus error with data 0 (R52, R53, R54; that the model stops
there is log 5, and that an access lies where its address does is log 15). -/
def Obligations.OtherAccessesGetABusError : Prop :=
  ∀ (s : State) (es : List HostEvent) (a : Access), s.cfg.wf → s.pending = .access a :: es →
    s.cfg.base ≤ a.addr → a.addr < s.cfg.base + 0x3000 → ¬ a.allowed s.cfg →
    ∃ c, step s = .fault (.busError c 0)

/-- An access outside FRAMER's 0x3000 bytes (log 6) and a second host (R164) are refused by name. -/
def Obligations.OutsideAccessesAndSecondHostsAreRefused : Prop :=
  ∀ (s : State) (es : List HostEvent) (a : Access),
    (s.pending = .access a :: es → (a.addr < s.cfg.base ∨ s.cfg.base + 0x3000 ≤ a.addr) →
      step s = .refused (.outsideFramer a.addr)) ∧
    (s.pending = .secondHost a :: es → step s = .refused .secondHost)

/-- R56: a read changes nothing but its answer, a second read answers the same, and of the writes that complete every
one but a CMD write only stores its data, in DATA_IN or in RXBUF. -/
def Obligations.OnlyCommandWritesHaveEffects : Prop :=
  (∀ (s t : State) (es : List HostEvent) (bits : Nat) (addr : Nat),
    s.pending = .access (.read bits addr) :: es → step s = .next t →
    t = { s with pending := es, answer := t.answer }) ∧
  (∀ (s t u : State) (es : List HostEvent) (bits : Nat) (addr : Nat),
    s.pending = .access (.read bits addr) :: .access (.read bits addr) :: es →
    step s = .next t → step t = .next u → u.answer = t.answer) ∧
  (∀ (s t : State) (es : List HostEvent) (a : Access),
    s.pending = .access a :: es → (∀ v, a ≠ .write 32 (s.cfg.base + 0x000) v) → step s = .next t →
    t = { s with pending := es, answer := t.answer, dataIn := t.dataIn, rxbuf := t.rxbuf } ∧
    (t.dataIn ≠ s.dataIn → a = .write 32 (s.cfg.base + 0x004) t.dataIn) ∧
    (t.rxbuf ≠ s.rxbuf → ∃ i b, a = .write 8 (s.cfg.base + 0x2000 + i) b ∧ t.rxbuf = Memory.write i b s.rxbuf))

/-! ## Reset -/

/-- The reset input: every register and bit is 0, both channels are UNCONFIGURED, and every buffer byte is a fresh
draw (R42, R180). -/
def Obligations.ResetInputClearsRegistersAndRedrawsBuffers : Prop :=
  ∀ (s : State) (es : List HostEvent), s.pending = .reset :: es →
    ∃ t, step s = .next t ∧
      t.cmd = 0 ∧ t.dataIn = 0 ∧ t.status = 0 ∧ t.result = 0 ∧
      t.txConfigured = false ∧ t.txNcmd = 0 ∧ t.txIndex = 0 ∧ t.txCap = 0 ∧
      t.rxConfigured = false ∧ t.rxIndex = 0 ∧ t.rxCap = 0 ∧ t.rxNumBytes = 0 ∧
      t.txState = 0 ∧ t.rxState = 0 ∧
      (∀ i, t.readTx i = Config.txDraw (s.epoch + 1) i) ∧ (∀ i, t.readRx i = Config.rxDraw (s.epoch + 1) i) ∧
      t.cfg = s.cfg ∧ t.pending = es

/-- The state after reset, for every parameter, every draw and every input that waits (R42). `State.reset` is one of
them; its parameters are the model's choice (log 2), and no clause here rests on them. -/
def Obligations.ResetStateHoldsTheResetValues : Prop :=
  (∀ (p : Params) (k : Nat) (es : List HostEvent),
    let t := State.resetWith p k es
    t.cmd = 0 ∧ t.dataIn = 0 ∧ t.status = 0 ∧ t.result = 0 ∧
    t.txConfigured = false ∧ t.txNcmd = 0 ∧ t.txIndex = 0 ∧ t.txCap = 0 ∧
    t.rxConfigured = false ∧ t.rxIndex = 0 ∧ t.rxCap = 0 ∧ t.rxNumBytes = 0 ∧
    t.txState = 0 ∧ t.rxState = 0 ∧
    (∀ i, t.readTx i = Config.txDraw k i) ∧ (∀ i, t.readRx i = Config.rxDraw k i)) ∧
  ∃ p k es, State.reset = State.resetWith p k es

/-! ## The checksum -/

/-- crc8 of nothing, the residue law, and that each high byte makes the low byte and its checksum one to one (R94). -/
def Obligations.CrcResidueAndBijection : Prop :=
  crc8 [] = 0xFF ∧ (∀ h l : Byte, crc8 [h, l, crc8 [h, l]] = 0x00) ∧
  (∀ h : Byte, Function.Bijective fun l : Byte => crc8 [h, l])

/-- Flipping any one of the 24 bits of a valid group makes its check fail (R94). -/
def Obligations.CrcDetectsEveryFlippedBit : Prop :=
  ∀ (h l : Byte) (k : Nat), k < 24 → ∀ a b c : Byte,
    flipBit k [h, l, crc8 [h, l]] = [a, b, c] → crc8 [a, b] ≠ c

/-- CRC_CALC (R92): its encoding, its result for each count, and nothing else written. -/
def Obligations.CrcCalcRule : Prop :=
  DecodesAs 0x01 (fun w => lenWord w ∧ (lenOf w).toNat ≤ 4) (fun w => .crcCalc (lenOf w)) ∧
  ∀ (s : State) (n : Half) (bytes : List Byte),
    (n, bytes) ∈
      [(0, []),
       (1, [s.dataIn.extractLsb' 0 8]),
       (2, [s.dataIn.extractLsb' 8 8, s.dataIn.extractLsb' 0 8]),
       (3, [s.dataIn.extractLsb' 16 8, s.dataIn.extractLsb' 8 8, s.dataIn.extractLsb' 0 8]),
       (4, [s.dataIn.extractLsb' 24 8, s.dataIn.extractLsb' 16 8, s.dataIn.extractLsb' 8 8,
            s.dataIn.extractLsb' 0 8])] →
    exec (.crcCalc n) s = .next { s with result := (crc8 bytes).setWidth 32, status := report s 0 0 }

/-- CRC_CHECK (R93): its encoding, the match, which writes RESULT, and the mismatch, which does not. -/
def Obligations.CrcCheckRule : Prop :=
  DecodesAs 0x02 bareWord (fun _ => .crcCheck) ∧
  ∀ s : State,
    (crc8 [s.dataIn.extractLsb' 16 8, s.dataIn.extractLsb' 8 8] = s.dataIn.extractLsb' 0 8 →
      exec .crcCheck s =
        .next { s with result := (s.dataIn.extractLsb' 0 8).setWidth 32, status := report s 0 0 }) ∧
    (crc8 [s.dataIn.extractLsb' 16 8, s.dataIn.extractLsb' 8 8] ≠ s.dataIn.extractLsb' 0 8 →
      exec .crcCheck s = .next { s with status := report s 0 3 })

/-! ## The TX channel -/

/-- TX_INIT (R102): its encoding, the configured channel with TXBUF as it was, and the refused construction, which
leaves the channel unconfigured. -/
def Obligations.TxInitRule : Prop :=
  DecodesAs 0x10 ncmdLenWord (fun w => .txInit (ncmdOf w) (lenOf w)) ∧
  ∀ (s : State) (n : BitVec 2) (cap : Half),
    (n ≠ 3 → cap.toNat ≤ s.cfg.maxCap → n.toNat ≤ cap.toNat →
      exec (.txInit n cap) s =
        .next { s with txConfigured := true, txNcmd := n, txCap := cap, txIndex := 0, status := report s 0 0 }) ∧
    ((n = 3 ∨ s.cfg.maxCap < cap.toNat ∨ cap.toNat < n.toNat) →
      exec (.txInit n cap) s =
        .next { s with txConfigured := false, txNcmd := 0, txCap := 0, txIndex := 0, status := report s 0 4 })

/-- TX_INIT_CMD (R103): its encoding, the configured channel with its command field written, no other byte of TXBUF
changed, and the refused construction. -/
def Obligations.TxInitCmdRule : Prop :=
  DecodesAs 0x11 ncmdLenWord (fun w => .txInitCmd (ncmdOf w) (lenOf w)) ∧
  ∀ (s : State) (n : BitVec 2) (cap : Half),
    ((n = 1 ∨ n = 2) → cap.toNat ≤ s.cfg.maxCap → n.toNat ≤ cap.toNat →
      ∃ t, exec (.txInitCmd n cap) s = .next t ∧
        (n = 2 → t.readTx 0 = s.dataIn.extractLsb' 8 8 ∧ t.readTx 1 = s.dataIn.extractLsb' 0 8) ∧
        (n = 1 → t.readTx 0 = s.dataIn.extractLsb' 0 8) ∧
        (∀ a, n.toNat ≤ a → t.readTx a = s.readTx a) ∧
        t = { s with txbuf := t.txbuf, txConfigured := true, txNcmd := n, txCap := cap,
                     txIndex := BitVec.ofNat 16 n.toNat, status := report s 0 0 }) ∧
    ((n = 0 ∨ n = 3 ∨ s.cfg.maxCap < cap.toNat ∨ cap.toNat < n.toNat) →
      exec (.txInitCmd n cap) s =
        .next { s with txConfigured := false, txNcmd := 0, txCap := 0, txIndex := 0, status := report s 0 4 })

/-- TX_ADD_CMD (R104): its encoding, the command field written at offset 0 and the index moved past it, and the three
refusals, which change only STATUS. TX_NCMD = 3 is never held (R27, R36). -/
def Obligations.TxAddCmdRule : Prop :=
  DecodesAs 0x12 bareWord (fun _ => .txAddCmd) ∧
  ∀ s : State,
    (s.txConfigured = true → s.txNcmd = 1 ∨ s.txNcmd = 2 → s.txIndex = 0 →
      ∃ t, exec .txAddCmd s = .next t ∧
        (s.txNcmd = 2 → t.readTx 0 = s.dataIn.extractLsb' 8 8 ∧ t.readTx 1 = s.dataIn.extractLsb' 0 8) ∧
        (s.txNcmd = 1 → t.readTx 0 = s.dataIn.extractLsb' 0 8) ∧
        (∀ a, s.txNcmd.toNat ≤ a → t.readTx a = s.readTx a) ∧
        t = { s with txbuf := t.txbuf, txIndex := BitVec.ofNat 16 s.txNcmd.toNat, status := report s 0 0 }) ∧
    ((s.txConfigured = false ∨ s.txNcmd = 0 ∨ s.txIndex ≠ 0) →
      exec .txAddCmd s = .next { s with status := report s 0 4 })

/-- TX_ADD_U16 (R105): its encoding, the one group appended, every other byte as it was, and the refusals in their
order, which change only STATUS. -/
def Obligations.TxAddU16Rule : Prop :=
  DecodesAs 0x13 bareWord (fun _ => .txAddU16) ∧
  ∀ s : State,
    (s.txConfigured = true → (s.txNcmd = 0 ∨ s.txNcmd.toNat ≤ s.txIndex.toNat) →
      s.txIndex.toNat + 3 ≤ s.txCap.toNat →
      ∃ t, exec .txAddU16 s = .next t ∧
        t.readTx s.txIndex.toNat = s.dataIn.extractLsb' 8 8 ∧
        t.readTx (s.txIndex.toNat + 1) = s.dataIn.extractLsb' 0 8 ∧
        t.readTx (s.txIndex.toNat + 2) = crc8 [s.dataIn.extractLsb' 8 8, s.dataIn.extractLsb' 0 8] ∧
        (∀ a, a < s.txIndex.toNat ∨ s.txIndex.toNat + 3 ≤ a → t.readTx a = s.readTx a) ∧
        t = { s with txbuf := t.txbuf, txIndex := s.txIndex + 3, status := report s 0 0 }) ∧
    ((s.txConfigured = false ∨ (s.txNcmd ≠ 0 ∧ s.txIndex.toNat < s.txNcmd.toNat)) →
      exec .txAddU16 s = .next { s with status := report s 0 4 }) ∧
    (s.txConfigured = true → (s.txNcmd = 0 ∨ s.txNcmd.toNat ≤ s.txIndex.toNat) →
      s.txCap.toNat < s.txIndex.toNat + 3 →
      exec .txAddU16 s = .next { s with status := report s 0 1 })

/-- TX_ADD_U32 and TX_ADD_F32 (R106, R107): their encodings, the two groups appended, the high half first, every other
byte as it was, and the refusals in their order, which write neither group and change only STATUS. -/
def Obligations.TxAddU32AndF32Rule : Prop :=
  DecodesAs 0x14 bareWord (fun _ => .txAddU32) ∧ DecodesAs 0x15 bareWord (fun _ => .txAddF32) ∧
  ∀ (i : Instr) (s : State), (i = .txAddU32 ∨ i = .txAddF32) →
    (s.txConfigured = true → (s.txNcmd = 0 ∨ s.txNcmd.toNat ≤ s.txIndex.toNat) →
      s.txIndex.toNat + 6 ≤ s.txCap.toNat →
      ∃ t, exec i s = .next t ∧
        t.readTx s.txIndex.toNat = s.dataIn.extractLsb' 24 8 ∧
        t.readTx (s.txIndex.toNat + 1) = s.dataIn.extractLsb' 16 8 ∧
        t.readTx (s.txIndex.toNat + 2) = crc8 [s.dataIn.extractLsb' 24 8, s.dataIn.extractLsb' 16 8] ∧
        t.readTx (s.txIndex.toNat + 3) = s.dataIn.extractLsb' 8 8 ∧
        t.readTx (s.txIndex.toNat + 4) = s.dataIn.extractLsb' 0 8 ∧
        t.readTx (s.txIndex.toNat + 5) = crc8 [s.dataIn.extractLsb' 8 8, s.dataIn.extractLsb' 0 8] ∧
        (∀ a, a < s.txIndex.toNat ∨ s.txIndex.toNat + 6 ≤ a → t.readTx a = s.readTx a) ∧
        t = { s with txbuf := t.txbuf, txIndex := s.txIndex + 6, status := report s 0 0 }) ∧
    ((s.txConfigured = false ∨ (s.txNcmd ≠ 0 ∧ s.txIndex.toNat < s.txNcmd.toNat)) →
      exec i s = .next { s with status := report s 0 4 }) ∧
    (s.txConfigured = true → (s.txNcmd = 0 ∨ s.txNcmd.toNat ≤ s.txIndex.toNat) →
      s.txCap.toNat < s.txIndex.toNat + 6 →
      exec i s = .next { s with status := report s 0 1 })

/-- The two construction paths agree (R108): the same channel and TXBUF, and beside CMD only STATUS.LAST_OP differs. -/
def Obligations.ConstructionPathsAgree : Prop :=
  ∀ (s : State) (n : BitVec 2) (cap : Half),
    (n = 1 ∨ n = 2) → n.toNat ≤ cap.toNat → cap.toNat ≤ s.cfg.maxCap →
    ∃ b c,
      Host.Core.run Sys2Proof.core 2
        { s with pending := [cmdWrite s.cfg (commandWord 0x10 n cap), cmdWrite s.cfg 0x00000012] } = .next b ∧
      step { s with pending := [cmdWrite s.cfg (commandWord 0x11 n cap)] } = .next c ∧
      b.txConfigured = c.txConfigured ∧ b.txNcmd = c.txNcmd ∧ b.txCap = c.txCap ∧ b.txIndex = c.txIndex ∧
      b.txbuf = c.txbuf ∧ b.status = statusWord 0 0x12 0 ∧ c.status = statusWord 0 0x11 0 ∧
      b = { c with cmd := b.cmd, status := b.status }

/-- Any sequence of adds that fits runs to its end, its last add with OK, and the frame is then the frame before it
followed by the groups of the adds, in command order (R58, R69, R109). -/
def Obligations.AddsAppendTheirGroupsToTheFrame : Prop :=
  ∀ (s : State) (items : List Item), s.txConfigured = true →
    (s.txNcmd = 0 ∨ s.txNcmd.toNat ≤ s.txIndex.toNat) →
    s.txIndex.toNat + (items.flatMap Item.bytes).length ≤ s.txCap.toNat →
    ∃ t, Host.Core.run Sys2Proof.core (2 * items.length)
        { s with pending := items.flatMap (Item.events s.cfg) } = .next t ∧
      t.txFrame = s.txFrame ++ items.flatMap Item.bytes ∧ t.pending = [] ∧
      (items ≠ [] → t.status.extractLsb' 0 4 = 0)

/-! ## The RX channel -/

/-- RX_INIT (R122): its encoding, the configured channel with RXBUF as it was, and the refused construction. -/
def Obligations.RxInitRule : Prop :=
  DecodesAs 0x20 lenWord (fun w => .rxInit (lenOf w)) ∧
  ∀ (s : State) (cap : Half),
    (cap.toNat ≤ s.cfg.maxCap →
      exec (.rxInit cap) s =
        .next { s with rxConfigured := true, rxCap := cap, rxIndex := 0, rxNumBytes := 0, status := report s 0 0 }) ∧
    (s.cfg.maxCap < cap.toNat →
      exec (.rxInit cap) s =
        .next { s with rxConfigured := false, rxCap := 0, rxIndex := 0, rxNumBytes := 0, status := report s 0 4 })

/-- RX_SET_LEN (R123): its encoding, the new length with the index back at 0, and the refusals, which change only
STATUS. -/
def Obligations.RxSetLenRule : Prop :=
  DecodesAs 0x21 lenWord (fun w => .rxSetLen (lenOf w)) ∧
  ∀ (s : State) (n : Half),
    (s.rxConfigured = true → n.toNat ≤ s.rxCap.toNat →
      exec (.rxSetLen n) s = .next { s with rxNumBytes := n, rxIndex := 0, status := report s 0 0 }) ∧
    ((s.rxConfigured = false ∨ s.rxCap.toNat < n.toNat) →
      exec (.rxSetLen n) s = .next { s with status := report s 0 4 })

/-- RX_GET_U16 (R124): its encoding, the group's value in RESULT with the index past it, and the three refusals, which
change only STATUS. -/
def Obligations.RxGetU16Rule : Prop :=
  DecodesAs 0x22 bareWord (fun _ => .rxGetU16) ∧
  ∀ (s : State) (h l c : Byte),
    s.readRx s.rxIndex.toNat = h → s.readRx (s.rxIndex.toNat + 1) = l → s.readRx (s.rxIndex.toNat + 2) = c →
    (s.rxConfigured = true → s.rxIndex.toNat + 3 ≤ s.rxNumBytes.toNat → crc8 [h, l] = c →
      exec .rxGetU16 s =
        .next { s with result := BitVec.ofNat 32 (256 * h.toNat + l.toNat), rxIndex := s.rxIndex + 3,
                       status := report s 0 0 }) ∧
    (s.rxConfigured = true → s.rxIndex.toNat + 3 ≤ s.rxNumBytes.toNat → crc8 [h, l] ≠ c →
      exec .rxGetU16 s = .next { s with status := report s s.rxIndex 3 }) ∧
    (s.rxConfigured = true → s.rxNumBytes.toNat < s.rxIndex.toNat + 3 →
      exec .rxGetU16 s = .next { s with status := report s 0 2 }) ∧
    (s.rxConfigured = false → exec .rxGetU16 s = .next { s with status := report s 0 4 })

/-- RX_GET_U32 and RX_GET_F32 (R125, R126): their encodings, the two groups assembled high half first in RESULT with
the index past both, and the refusals: the offset reported is the first failing group's, and only STATUS changes. -/
def Obligations.RxGetU32AndF32Rule : Prop :=
  DecodesAs 0x23 bareWord (fun _ => .rxGetU32) ∧ DecodesAs 0x24 bareWord (fun _ => .rxGetF32) ∧
  ∀ (i : Instr) (s : State) (h l c h' l' c' : Byte), (i = .rxGetU32 ∨ i = .rxGetF32) →
    s.readRx s.rxIndex.toNat = h → s.readRx (s.rxIndex.toNat + 1) = l → s.readRx (s.rxIndex.toNat + 2) = c →
    s.readRx (s.rxIndex.toNat + 3) = h' → s.readRx (s.rxIndex.toNat + 4) = l' →
    s.readRx (s.rxIndex.toNat + 5) = c' →
    (s.rxConfigured = true → s.rxIndex.toNat + 6 ≤ s.rxNumBytes.toNat → crc8 [h, l] = c → crc8 [h', l'] = c' →
      exec i s =
        .next { s with
          result := BitVec.ofNat 32 (16777216 * h.toNat + 65536 * l.toNat + 256 * h'.toNat + l'.toNat),
          rxIndex := s.rxIndex + 6, status := report s 0 0 }) ∧
    (s.rxConfigured = true → s.rxIndex.toNat + 6 ≤ s.rxNumBytes.toNat → crc8 [h, l] ≠ c →
      exec i s = .next { s with status := report s s.rxIndex 3 }) ∧
    (s.rxConfigured = true → s.rxIndex.toNat + 6 ≤ s.rxNumBytes.toNat → crc8 [h, l] = c → crc8 [h', l'] ≠ c' →
      exec i s = .next { s with status := report s (s.rxIndex + 3) 3 }) ∧
    (s.rxConfigured = true → s.rxNumBytes.toNat < s.rxIndex.toNat + 6 →
      exec i s = .next { s with status := report s 0 2 }) ∧
    (s.rxConfigured = false → exec i s = .next { s with status := report s 0 4 })

/-- A failed get leaves the whole RX channel and RESULT as they were: only STATUS changes (R128). -/
def Obligations.FailedGetChangesOnlyStatus : Prop :=
  ∀ (i : Instr) (s t : State), isRxGet i = true → exec i s = .next t → t.status.extractLsb' 0 4 ≠ 0 →
    t = { s with status := t.status }

/-- The round trip of a 16-bit value through both channels, and that a group with any one bit changed is reported
(R127). -/
def Obligations.RoundTripOfU16 : Prop :=
  ∀ (s t r : State) (g : List Byte), exec .txAddU16 s = .next t → t.status.extractLsb' 0 4 = 0 →
    g = [t.readTx s.txIndex.toNat, t.readTx (s.txIndex.toNat + 1), t.readTx (s.txIndex.toNat + 2)] →
    r.cfg.wf → r.rxConfigured = true → 3 ≤ r.rxCap.toNat → r.rxCap.toNat ≤ r.cfg.maxCap →
    (∃ q, Host.Core.run Sys2Proof.core 5
        { r with pending := rxLoad r.cfg g ++ [cmdWrite r.cfg 0x00030021, cmdWrite r.cfg 0x00000022] } = .next q ∧
      q.status.extractLsb' 0 4 = 0 ∧ q.result = (s.dataIn.extractLsb' 0 16).setWidth 32) ∧
    (∀ k, k < 24 → ∃ q, Host.Core.run Sys2Proof.core 5
        { r with pending := rxLoad r.cfg (flipBit k g) ++ [cmdWrite r.cfg 0x00030021, cmdWrite r.cfg 0x00000022] } =
        .next q ∧
      q.status.extractLsb' 0 4 = 3 ∧ q.result = r.result)

/-- The round trip of a 32-bit value and of a float pattern through both channels (R127). -/
def Obligations.RoundTripOfU32AndF32 : Prop :=
  ∀ (i : Instr) (get : Word) (s t r : State) (g : List Byte),
    ((i = .txAddU32 ∧ get = 0x00000023) ∨ (i = .txAddF32 ∧ get = 0x00000024)) →
    exec i s = .next t → t.status.extractLsb' 0 4 = 0 →
    g = [t.readTx s.txIndex.toNat, t.readTx (s.txIndex.toNat + 1), t.readTx (s.txIndex.toNat + 2),
         t.readTx (s.txIndex.toNat + 3), t.readTx (s.txIndex.toNat + 4), t.readTx (s.txIndex.toNat + 5)] →
    r.cfg.wf → r.rxConfigured = true → 6 ≤ r.rxCap.toNat → r.rxCap.toNat ≤ r.cfg.maxCap →
    ∃ q, Host.Core.run Sys2Proof.core 8
        { r with pending := rxLoad r.cfg g ++ [cmdWrite r.cfg 0x00060021, cmdWrite r.cfg get] } = .next q ∧
      q.status.extractLsb' 0 4 = 0 ∧ q.result = s.dataIn

/-- Where two 16-bit gets in a row succeed, one 32-bit get or float get from the same state succeeds with their values
put together, high half first, and the index where they left it: the width is not checked (R186). -/
def Obligations.WideGetIsTwoNarrowGets : Prop :=
  ∀ (i : Instr) (s t u : State), (i = .rxGetU32 ∨ i = .rxGetF32) →
    exec .rxGetU16 s = .next t → t.status.extractLsb' 0 4 = 0 →
    exec .rxGetU16 t = .next u → u.status.extractLsb' 0 4 = 0 →
    exec i s = .next { s with result := t.result <<< 16 ||| u.result, rxIndex := u.rxIndex, status := report s 0 0 }

/-! ## Control, errors and whole-machine rules -/

/-- NOP (R140): its encoding, and STATUS is OK with nothing else changed; the word 0 leaves STATUS 0. -/
def Obligations.NopRule : Prop :=
  DecodesAs 0x00 bareWord (fun _ => .nop) ∧
  (∀ s : State, exec .nop s = .next { s with status := report s 0 0 }) ∧
  (∀ s : State, s.cmd = 0 → exec .nop s = .next { s with status := 0 })

/-- A failed command changes STATUS and nothing else, but for an INIT command, which unconfigures its channel; its
report carries CMD[7:0], and an offset only where an RX get found a mismatch (R43, R153). -/
def Obligations.FailedCommandChangesOnlyStatus : Prop :=
  ∀ (i : Instr) (s t : State), exec i s = .next t → t.status.extractLsb' 0 4 ≠ 0 →
    (isTxInit i = false → isRxInit i = false → t = { s with status := t.status }) ∧
    (isTxInit i = true →
      t = { s with txConfigured := false, txNcmd := 0, txIndex := 0, txCap := 0, status := t.status }) ∧
    (isRxInit i = true →
      t = { s with rxConfigured := false, rxIndex := 0, rxNumBytes := 0, rxCap := 0, status := t.status }) ∧
    t.status.extractLsb' 8 8 = s.cmd.extractLsb' 0 8 ∧
    (t.status.extractLsb' 16 16 ≠ 0 → isRxGet i = true ∧ t.status.extractLsb' 0 4 = 3)

/-- A command that ends with OK writes STATUS as {0, CMD[7:0], 0} (R152), and every command ends with a code R151 lets
it raise. -/
def Obligations.CodesAreThoseOfTheTable : Prop :=
  ∀ (i : Instr) (s t : State), i.wf = true → exec i s = .next t →
    (t.status.extractLsb' 0 4 = 0 → t.status = report s 0 0) ∧
    (t.status.extractLsb' 0 4 = 1 → i = .txAddU16 ∨ i = .txAddU32 ∨ i = .txAddF32) ∧
    (t.status.extractLsb' 0 4 = 2 → isRxGet i = true) ∧
    (t.status.extractLsb' 0 4 = 3 → isRxGet i = true ∨ i = .crcCheck) ∧
    (t.status.extractLsb' 0 4 = 4 → isTx i = true ∨ isRxGet i = true ∨ setsRxLen i = true) ∧
    (t.status.extractLsb' 0 4).toNat ≤ 4

/-- Which command writes what (R24, R26, R28, R29, R31 to R33, R55): everything else is left as it was. -/
def Obligations.WhichCommandWritesWhat : Prop :=
  ∀ (i : Instr) (s t : State), exec i s = .next t →
    t.cmd = s.cmd ∧ t.dataIn = s.dataIn ∧ t.rxbuf = s.rxbuf ∧ t.cfg = s.cfg ∧ t.epoch = s.epoch ∧
    t.pending = s.pending ∧ t.answer = s.answer ∧
    (isTx i = false → t.txIndex = s.txIndex) ∧
    (isTxInit i = false → t.txConfigured = s.txConfigured ∧ t.txNcmd = s.txNcmd ∧ t.txCap = s.txCap) ∧
    (writesTxbuf i = false → t.txbuf = s.txbuf) ∧
    (isRxGet i = false → setsRxLen i = false → t.rxIndex = s.rxIndex) ∧
    (isRxInit i = false → t.rxConfigured = s.rxConfigured ∧ t.rxCap = s.rxCap) ∧
    (setsRxLen i = false → t.rxNumBytes = s.rxNumBytes) ∧
    (producesResult i = false → t.result = s.result)

/-- No command reads STATUS: an earlier command's result changes nothing a later one does (R44, R158). -/
def Obligations.CommandsNeverReadStatus : Prop :=
  ∀ (i : Instr) (s : State) (v : Word), exec i { s with status := v } = exec i s

/-- The bits of DATA_IN a command does not use change nothing it does (R74): two runs that differ in them alone end
alike. -/
def Obligations.UnusedDataInBitsDoNotMatter : Prop :=
  ∀ (i : Instr) (s : State) (d : Word), i.wf = true → s.txNcmd.toNat ≤ 2 →
    d.toNat % 2 ^ dataInBits s i = s.dataIn.toNat % 2 ^ dataInBits s i →
    ∃ t, exec i s = .next t ∧ exec i { s with dataIn := d } = .next { t with dataIn := d }

/-- No command writes TXBUF at or above the TX channel's capacity (R40). -/
def Obligations.CommandsLeaveBytesAboveCapacity : Prop :=
  ∀ (i : Instr) (s t : State), TxInv s → exec i s = .next t →
    ∀ a, t.txCap.toNat ≤ a → t.readTx a = s.readTx a

/-- No command depends on an RXBUF byte at or above RX_NUMBYTES (R40, R121): two runs that differ in those bytes alone
end alike. -/
def Obligations.CommandsReadOnlyReceivedBytes : Prop :=
  ∀ (i : Instr) (s : State) (m : Memory),
    (∀ a, a < s.rxNumBytes.toNat → State.readRx { s with rxbuf := m } a = s.readRx a) →
    ∃ t, exec i s = .next t ∧ exec i { s with rxbuf := m } = .next { t with rxbuf := m }

/-- A configured bit says whether the channel's last INIT command succeeded (R35). -/
def Obligations.ConfiguredBitFollowsInit : Prop :=
  ∀ (i : Instr) (s t : State), exec i s = .next t →
    (isTxInit i = true → (t.txConfigured = true ↔ t.status.extractLsb' 0 4 = 0)) ∧
    (isTxInit i = false → t.txConfigured = s.txConfigured) ∧
    (isRxInit i = true → (t.rxConfigured = true ↔ t.status.extractLsb' 0 4 = 0)) ∧
    (isRxInit i = false → t.rxConfigured = s.rxConfigured)

/-- On an unconfigured channel every command but INIT fails with InvalidConfiguration, and NOP and CRC_CALC work
(R181). -/
def Obligations.UnconfiguredChannelsRefuse : Prop :=
  ∀ (i : Instr) (s : State),
    (s.txConfigured = false → isTx i = true → isTxInit i = false →
      exec i s = .next { s with status := report s 0 4 }) ∧
    (s.rxConfigured = false → (isRxGet i = true ∨ setsRxLen i = true) → isRxInit i = false →
      exec i s = .next { s with status := report s 0 4 }) ∧
    (i.wf = true → (i = .nop ∨ ∃ n, i = .crcCalc n) → ∃ t, exec i s = .next t ∧ t.status = report s 0 0)

/-! ## Invariants -/

/-- The channel invariants hold after reset, whatever the parameters, and every step from every state that meets them,
whether it performs a command or not, keeps them (R36, R37). -/
def Obligations.StepKeepsChannelInvariants : Prop :=
  (∀ (p : Params) (k : Nat) (es : List HostEvent),
    TxInv (State.resetWith p k es) ∧ RxInv (State.resetWith p k es)) ∧
  ∀ s t : State, TxInv s → RxInv s → step s = .next t → TxInv t ∧ RxInv t

/-- Every step keeps the form of STATUS: a produced code, reserved bits 0, LAST_OP the opcode of CMD, and an offset
only beside ChecksumMismatch (R25, R151). -/
def Obligations.StepKeepsStatusForm : Prop := ∀ s t : State, StatusInv s → step s = .next t → StatusInv t

/-- Every step keeps both buffer memories in canonical form and inside MAX_CAP (R40; the form is the model's, log 4). -/
def Obligations.StepKeepsBufferForm : Prop :=
  ∀ s t : State, TxInv s → BufferInv s → step s = .next t → BufferInv t

/-- The state after reset meets every invariant, for every parameter (R42). Two clauses are the model's choice: that a
buffer memory has the canonical form `BufferInv` asks for (log 4), and that the parameters `State.reset` names are ones
the spec admits (log 2). -/
def Obligations.ResetMeetsEveryInvariant : Prop :=
  (∀ (p : Params) (k : Nat) (es : List HostEvent),
    TxInv (State.resetWith p k es) ∧ RxInv (State.resetWith p k es) ∧ StatusInv (State.resetWith p k es) ∧
    BufferInv (State.resetWith p k es)) ∧
  TxInv State.reset ∧ RxInv State.reset ∧ StatusInv State.reset ∧ BufferInv State.reset ∧ State.reset.cfg.wf

/-- No step changes the parameters, and every step but one with nothing pending takes exactly one host event (R20, R63;
log 1 and 2). -/
def Obligations.StepKeepsParametersAndTakesOneEvent : Prop :=
  ∀ s t : State, step s = .next t → t.cfg = s.cfg ∧ t.pending = s.pending.tail

/-! ## Widths and alignment -/

/-- A register access of any width but 32 bits or at an offset that is not a multiple of 4, and a window access of any
width but 8 bits, get a bus error with data 0, reads and writes alike (R52, R53, R54; that the model stops there is
log 5). -/
def Obligations.ForbiddenWidthsAndAlignmentsGetABusError : Prop :=
  ∀ (s : State) (es : List HostEvent) (a : Access) (off : Nat), s.cfg.wf → s.pending = .access a :: es →
    a.addr = s.cfg.base + off →
    ((off ≤ 0x030 ∧ (a.bits ≠ 32 ∨ off % 4 ≠ 0)) ∨
      ((∃ i < s.cfg.maxCap, off = 0x1000 + i ∨ off = 0x2000 + i) ∧ a.bits ≠ 8)) →
    ∃ c, step s = .fault (.busError c 0)
end

