-- ==== Sys2Proof/Laws/Crc.lean ====
section
/-! SUPPORT. crc8 is computed incrementally (spec/40_checksum.md R90), and one step of its register is linear and can
be undone, which is what its laws (R94) rest on. -/

namespace Sys2Proof.Machine

theorem crc8_nil : crc8 [] = crcInit := rfl

theorem crc8_append (xs ys : List Byte) : crc8 (xs ++ ys) = ys.foldl crcByte (crc8 xs) := by
  simp [crc8, List.foldl_append]

theorem crc8_snoc (xs : List Byte) (b : Byte) : crc8 (xs ++ [b]) = crcByte (crc8 xs) b := by
  simp [crc8_append]

/-- The register shift respects exclusive or. -/
theorem crcBit_xor (a b : Byte) : crcBit (a ^^^ b) = crcBit a ^^^ crcBit b := by
  unfold crcBit
  rw [BitVec.msb_xor, BitVec.shiftLeft_xor_distrib]
  generalize a <<< 1 = x
  generalize b <<< 1 = y
  cases a.msb <;> cases b.msb <;> simp only [Bool.xor_false, Bool.xor_true, Bool.not_true, Bool.not_false, if_true,
    Bool.false_eq_true, if_false]
  · ac_rfl
  · ac_rfl
  · have h : (x ^^^ crcPoly) ^^^ (y ^^^ crcPoly) = (x ^^^ y) ^^^ (crcPoly ^^^ crcPoly) := by ac_rfl
    rw [h, BitVec.xor_self, BitVec.xor_zero]

theorem crcShift_xor (n : Nat) (a b : Byte) : crcShift n (a ^^^ b) = crcShift n a ^^^ crcShift n b := by
  induction n generalizing a b with
  | zero => rfl
  | succ n ih => simp only [crcShift, crcBit_xor, ih]

theorem crcByte_eq (c b : Byte) : crcByte c b = crcShift 8 c ^^^ crcShift 8 b := crcShift_xor 8 c b

theorem crcShift_zero_right : crcShift 8 0 = 0 := by decide

end Sys2Proof.Machine
end

