-- ==== Sys2Proof/Laws/Decode.lean ====
section
/-! SUPPORT. The fields of a command word, and what `decode` needs of a word. -/

namespace Sys2Proof

@[simp] theorem opField_commandWord (op : Byte) (n : BitVec 2) (len : Half) : opField (commandWord op n len) = op := by
  apply BitVec.eq_of_getLsbD_eq
  intro i hi
  simp [opField, commandWord, hi, show i < 16 by omega, show i < 32 by omega]

@[simp] theorem ncmdField_commandWord (op : Byte) (n : BitVec 2) (len : Half) :
    ncmdField (commandWord op n len) = n := by
  apply BitVec.eq_of_getLsbD_eq
  intro i hi
  simp [ncmdField, commandWord, hi, show 8 + i < 16 by omega, show 8 + i < 32 by omega]

@[simp] theorem rsvField_commandWord (op : Byte) (n : BitVec 2) (len : Half) : rsvField (commandWord op n len) = 0 := by
  apply BitVec.eq_of_getLsbD_eq
  intro i hi
  simp [rsvField, commandWord, show 10 + i < 16 by omega, BitVec.getLsbD_of_ge op (10 + i) (by omega),
    BitVec.getLsbD_of_ge n (10 + i - 8) (by omega)]

@[simp] theorem lenField_commandWord (op : Byte) (n : BitVec 2) (len : Half) :
    lenField (commandWord op n len) = len := by
  apply BitVec.eq_of_getLsbD_eq
  intro i hi
  simp [lenField, commandWord, hi, show 16 + i < 32 by omega, BitVec.getLsbD_of_ge op (16 + i) (by omega),
    BitVec.getLsbD_of_ge n (16 + i - 8) (by omega)]

/-- A word is its fields: no bit stands outside them. -/
theorem eq_commandWord_of_fields (w : Word) (h : rsvField w = 0) :
    w = commandWord (opField w) (ncmdField w) (lenField w) := by
  have hr : ∀ k, k < 6 → w.getLsbD (10 + k) = false := by
    intro k hk
    have h1 := congrArg (fun v => v.getLsbD k) h
    simpa [rsvField, hk] using h1
  apply BitVec.eq_of_getLsbD_eq
  intro i hi
  by_cases h8 : i < 8
  · simp [commandWord, opField, hi, h8, show i < 16 by omega]
  · by_cases h10 : i < 10
    · simp [commandWord, opField, ncmdField, hi, h8, show i < 16 by omega, show i - 8 < 2 by omega,
        show 8 + (i - 8) = i by omega]
    · by_cases h16 : i < 16
      · have := hr (i - 10) (by omega)
        rw [show 10 + (i - 10) = i by omega] at this
        simp [commandWord, opField, ncmdField, h8, h16, this, show ¬ i - 8 < 2 by omega]
      · simp [commandWord, opField, ncmdField, lenField, hi, h8, h16, show ¬ i - 8 < 2 by omega,
          show i - 16 < 16 by omega, show 16 + (i - 16) = i by omega]

/-- One row of the opcode table: it names the command, or a later row does. -/
theorem row_or_later {p : Prop} [Decidable p] {a i : Instr} {later : Option Instr}
    (h : (if p then some a else later) = some i) : (p ∧ i = a) ∨ later = some i := by
  by_cases hp : p
  · exact .inl ⟨hp, (Option.some.inj ((if_pos hp).symm.trans h)).symm⟩
  · exact .inr ((if_neg hp).symm.trans h)

/-- The opcode table, row by row (R75): which opcode names which command. -/
theorem instrOf_some_iff (op : Byte) (n : BitVec 2) (len : Half) (i : Instr) :
    instrOf op n len = some i ↔
      (op = 0x00 ∧ i = .nop) ∨
      (op = 0x01 ∧ i = .crcCalc len) ∨
      (op = 0x02 ∧ i = .crcCheck) ∨
      (op = 0x10 ∧ i = .txInit n len) ∨
      (op = 0x11 ∧ i = .txInitCmd n len) ∨
      (op = 0x12 ∧ i = .txAddCmd) ∨
      (op = 0x13 ∧ i = .txAddU16) ∨
      (op = 0x14 ∧ i = .txAddU32) ∨
      (op = 0x15 ∧ i = .txAddF32) ∨
      (op = 0x20 ∧ i = .rxInit len) ∨
      (op = 0x21 ∧ i = .rxSetLen len) ∨
      (op = 0x22 ∧ i = .rxGetU16) ∨
      (op = 0x23 ∧ i = .rxGetU32) ∨
      (op = 0x24 ∧ i = .rxGetF32) := by
  refine ⟨fun h => ?_, fun h => ?_⟩
  · unfold instrOf at h
    iterate 13 refine Or.imp_right (fun h => ?_) (row_or_later h)
    exact (row_or_later h).resolve_right nofun
  · iterate 13
      obtain ⟨rfl, rfl⟩ | h := h
      · rfl
    rw [h.1, h.2]
    rfl

/-- Everything `decode` needs to answer a command (R76). -/
theorem decode_legal_iff (w : Word) (i : Instr) :
    decode w = .legal i ↔
      instrOf (opField w) (ncmdField w) (lenField w) = some i ∧ rsvField w = 0 ∧
      (usesNcmd (opField w) = false → ncmdField w = 0) ∧ (usesLen (opField w) = false → lenField w = 0) ∧
      (opField w = 0x01 → (lenField w).toNat ≤ 4) := by
  unfold decode
  cases hi : instrOf (opField w) (ncmdField w) (lenField w) with
  | none => simp
  | some j =>
    simp only [Option.some.injEq]
    by_cases h0 : rsvField w = 0
    · by_cases h1 : usesNcmd (opField w) = false ∧ ncmdField w ≠ 0
      · rw [if_neg (not_not.mpr h0), if_pos h1]
        exact ⟨fun h => by simp at h, fun h => absurd (h.2.2.1 h1.1) h1.2⟩
      · by_cases h2 : usesLen (opField w) = false ∧ lenField w ≠ 0
        · rw [if_neg (not_not.mpr h0), if_neg h1, if_pos h2]
          exact ⟨fun h => by simp at h, fun h => absurd (h.2.2.2.1 h2.1) h2.2⟩
        · by_cases h3 : opField w = 0x01 ∧ 4 < (lenField w).toNat
          · rw [if_neg (not_not.mpr h0), if_neg h1, if_neg h2, if_pos h3]
            exact ⟨fun h => by simp at h, fun h => absurd (h.2.2.2.2 h3.1) (by omega)⟩
          · rw [if_neg (not_not.mpr h0), if_neg h1, if_neg h2, if_neg h3, Decoded.legal.injEq]
            refine ⟨fun hj => ⟨hj, h0, fun h => ?_, fun h => ?_, fun h => ?_⟩, fun h => h.1⟩
            · exact not_not.mp fun hn => h1 ⟨h, hn⟩
            · exact not_not.mp fun hn => h2 ⟨h, hn⟩
            · exact not_lt.mp fun hn => h3 ⟨h, hn⟩
    · rw [if_pos h0]
      exact ⟨fun h => by simp at h, fun h => absurd h.2.1 h0⟩

/-- A word that decodes to no command is illegal for some reason. -/
theorem decode_illegal_of_not_legal (w : Word) (h : ∀ i, decode w ≠ .legal i) : ∃ e, decode w = .illegal e := by
  cases hd : decode w with
  | legal i => exact absurd hd (h i)
  | illegal e => exact ⟨e, rfl⟩

end Sys2Proof
end

