-- ==== Sys2Proof/Laws/State.lean ====
section
/-! SUPPORT. Every field of the state after every named update: so that no proof unfolds a record update. -/

namespace Sys2Proof.Machine
namespace State

variable (s : State)

/-! ### writeTx -/

@[simp] theorem writeTx_cmd (i : Nat) (b : Byte) : (s.writeTx i b).cmd = s.cmd := rfl
@[simp] theorem writeTx_dataIn (i : Nat) (b : Byte) : (s.writeTx i b).dataIn = s.dataIn := rfl
@[simp] theorem writeTx_status (i : Nat) (b : Byte) : (s.writeTx i b).status = s.status := rfl
@[simp] theorem writeTx_result (i : Nat) (b : Byte) : (s.writeTx i b).result = s.result := rfl
@[simp] theorem writeTx_txConfigured (i : Nat) (b : Byte) : (s.writeTx i b).txConfigured = s.txConfigured := rfl
@[simp] theorem writeTx_txNcmd (i : Nat) (b : Byte) : (s.writeTx i b).txNcmd = s.txNcmd := rfl
@[simp] theorem writeTx_txIndex (i : Nat) (b : Byte) : (s.writeTx i b).txIndex = s.txIndex := rfl
@[simp] theorem writeTx_txCap (i : Nat) (b : Byte) : (s.writeTx i b).txCap = s.txCap := rfl
@[simp] theorem writeTx_rxConfigured (i : Nat) (b : Byte) : (s.writeTx i b).rxConfigured = s.rxConfigured := rfl
@[simp] theorem writeTx_rxIndex (i : Nat) (b : Byte) : (s.writeTx i b).rxIndex = s.rxIndex := rfl
@[simp] theorem writeTx_rxCap (i : Nat) (b : Byte) : (s.writeTx i b).rxCap = s.rxCap := rfl
@[simp] theorem writeTx_rxNumBytes (i : Nat) (b : Byte) : (s.writeTx i b).rxNumBytes = s.rxNumBytes := rfl
@[simp] theorem writeTx_txbuf (i : Nat) (b : Byte) : (s.writeTx i b).txbuf = Memory.write i b s.txbuf := rfl
@[simp] theorem writeTx_rxbuf (i : Nat) (b : Byte) : (s.writeTx i b).rxbuf = s.rxbuf := rfl
@[simp] theorem writeTx_cfg (i : Nat) (b : Byte) : (s.writeTx i b).cfg = s.cfg := rfl
@[simp] theorem writeTx_epoch (i : Nat) (b : Byte) : (s.writeTx i b).epoch = s.epoch := rfl
@[simp] theorem writeTx_pending (i : Nat) (b : Byte) : (s.writeTx i b).pending = s.pending := rfl
@[simp] theorem writeTx_answer (i : Nat) (b : Byte) : (s.writeTx i b).answer = s.answer := rfl

@[simp] theorem writeTx_readRx (i : Nat) (b : Byte) (j : Nat) : (s.writeTx i b).readRx j = s.readRx j := rfl

/-! ### writeRx -/

@[simp] theorem writeRx_cmd (i : Nat) (b : Byte) : (s.writeRx i b).cmd = s.cmd := rfl
@[simp] theorem writeRx_dataIn (i : Nat) (b : Byte) : (s.writeRx i b).dataIn = s.dataIn := rfl
@[simp] theorem writeRx_status (i : Nat) (b : Byte) : (s.writeRx i b).status = s.status := rfl
@[simp] theorem writeRx_result (i : Nat) (b : Byte) : (s.writeRx i b).result = s.result := rfl
@[simp] theorem writeRx_txConfigured (i : Nat) (b : Byte) : (s.writeRx i b).txConfigured = s.txConfigured := rfl
@[simp] theorem writeRx_txNcmd (i : Nat) (b : Byte) : (s.writeRx i b).txNcmd = s.txNcmd := rfl
@[simp] theorem writeRx_txIndex (i : Nat) (b : Byte) : (s.writeRx i b).txIndex = s.txIndex := rfl
@[simp] theorem writeRx_txCap (i : Nat) (b : Byte) : (s.writeRx i b).txCap = s.txCap := rfl
@[simp] theorem writeRx_rxConfigured (i : Nat) (b : Byte) : (s.writeRx i b).rxConfigured = s.rxConfigured := rfl
@[simp] theorem writeRx_rxIndex (i : Nat) (b : Byte) : (s.writeRx i b).rxIndex = s.rxIndex := rfl
@[simp] theorem writeRx_rxCap (i : Nat) (b : Byte) : (s.writeRx i b).rxCap = s.rxCap := rfl
@[simp] theorem writeRx_rxNumBytes (i : Nat) (b : Byte) : (s.writeRx i b).rxNumBytes = s.rxNumBytes := rfl
@[simp] theorem writeRx_txbuf (i : Nat) (b : Byte) : (s.writeRx i b).txbuf = s.txbuf := rfl
@[simp] theorem writeRx_rxbuf (i : Nat) (b : Byte) : (s.writeRx i b).rxbuf = Memory.write i b s.rxbuf := rfl
@[simp] theorem writeRx_cfg (i : Nat) (b : Byte) : (s.writeRx i b).cfg = s.cfg := rfl
@[simp] theorem writeRx_epoch (i : Nat) (b : Byte) : (s.writeRx i b).epoch = s.epoch := rfl
@[simp] theorem writeRx_pending (i : Nat) (b : Byte) : (s.writeRx i b).pending = s.pending := rfl
@[simp] theorem writeRx_answer (i : Nat) (b : Byte) : (s.writeRx i b).answer = s.answer := rfl

@[simp] theorem writeRx_readTx (i : Nat) (b : Byte) (j : Nat) : (s.writeRx i b).readTx j = s.readTx j := rfl

/-! ### setCmd -/

@[simp] theorem setCmd_cmd (v : Word) : (s.setCmd v).cmd = v := rfl
@[simp] theorem setCmd_dataIn (v : Word) : (s.setCmd v).dataIn = s.dataIn := rfl
@[simp] theorem setCmd_status (v : Word) : (s.setCmd v).status = s.status := rfl
@[simp] theorem setCmd_result (v : Word) : (s.setCmd v).result = s.result := rfl
@[simp] theorem setCmd_txConfigured (v : Word) : (s.setCmd v).txConfigured = s.txConfigured := rfl
@[simp] theorem setCmd_txNcmd (v : Word) : (s.setCmd v).txNcmd = s.txNcmd := rfl
@[simp] theorem setCmd_txIndex (v : Word) : (s.setCmd v).txIndex = s.txIndex := rfl
@[simp] theorem setCmd_txCap (v : Word) : (s.setCmd v).txCap = s.txCap := rfl
@[simp] theorem setCmd_rxConfigured (v : Word) : (s.setCmd v).rxConfigured = s.rxConfigured := rfl
@[simp] theorem setCmd_rxIndex (v : Word) : (s.setCmd v).rxIndex = s.rxIndex := rfl
@[simp] theorem setCmd_rxCap (v : Word) : (s.setCmd v).rxCap = s.rxCap := rfl
@[simp] theorem setCmd_rxNumBytes (v : Word) : (s.setCmd v).rxNumBytes = s.rxNumBytes := rfl
@[simp] theorem setCmd_txbuf (v : Word) : (s.setCmd v).txbuf = s.txbuf := rfl
@[simp] theorem setCmd_rxbuf (v : Word) : (s.setCmd v).rxbuf = s.rxbuf := rfl
@[simp] theorem setCmd_cfg (v : Word) : (s.setCmd v).cfg = s.cfg := rfl
@[simp] theorem setCmd_epoch (v : Word) : (s.setCmd v).epoch = s.epoch := rfl
@[simp] theorem setCmd_pending (v : Word) : (s.setCmd v).pending = s.pending := rfl
@[simp] theorem setCmd_answer (v : Word) : (s.setCmd v).answer = s.answer := rfl

@[simp] theorem setCmd_readTx (v : Word) (j : Nat) : (s.setCmd v).readTx j = s.readTx j := rfl
@[simp] theorem setCmd_readRx (v : Word) (j : Nat) : (s.setCmd v).readRx j = s.readRx j := rfl

/-! ### setDataIn -/

@[simp] theorem setDataIn_cmd (v : Word) : (s.setDataIn v).cmd = s.cmd := rfl
@[simp] theorem setDataIn_dataIn (v : Word) : (s.setDataIn v).dataIn = v := rfl
@[simp] theorem setDataIn_status (v : Word) : (s.setDataIn v).status = s.status := rfl
@[simp] theorem setDataIn_result (v : Word) : (s.setDataIn v).result = s.result := rfl
@[simp] theorem setDataIn_txConfigured (v : Word) : (s.setDataIn v).txConfigured = s.txConfigured := rfl
@[simp] theorem setDataIn_txNcmd (v : Word) : (s.setDataIn v).txNcmd = s.txNcmd := rfl
@[simp] theorem setDataIn_txIndex (v : Word) : (s.setDataIn v).txIndex = s.txIndex := rfl
@[simp] theorem setDataIn_txCap (v : Word) : (s.setDataIn v).txCap = s.txCap := rfl
@[simp] theorem setDataIn_rxConfigured (v : Word) : (s.setDataIn v).rxConfigured = s.rxConfigured := rfl
@[simp] theorem setDataIn_rxIndex (v : Word) : (s.setDataIn v).rxIndex = s.rxIndex := rfl
@[simp] theorem setDataIn_rxCap (v : Word) : (s.setDataIn v).rxCap = s.rxCap := rfl
@[simp] theorem setDataIn_rxNumBytes (v : Word) : (s.setDataIn v).rxNumBytes = s.rxNumBytes := rfl
@[simp] theorem setDataIn_txbuf (v : Word) : (s.setDataIn v).txbuf = s.txbuf := rfl
@[simp] theorem setDataIn_rxbuf (v : Word) : (s.setDataIn v).rxbuf = s.rxbuf := rfl
@[simp] theorem setDataIn_cfg (v : Word) : (s.setDataIn v).cfg = s.cfg := rfl
@[simp] theorem setDataIn_epoch (v : Word) : (s.setDataIn v).epoch = s.epoch := rfl
@[simp] theorem setDataIn_pending (v : Word) : (s.setDataIn v).pending = s.pending := rfl
@[simp] theorem setDataIn_answer (v : Word) : (s.setDataIn v).answer = s.answer := rfl

@[simp] theorem setDataIn_readTx (v : Word) (j : Nat) : (s.setDataIn v).readTx j = s.readTx j := rfl
@[simp] theorem setDataIn_readRx (v : Word) (j : Nat) : (s.setDataIn v).readRx j = s.readRx j := rfl

/-! ### setResult -/

@[simp] theorem setResult_cmd (v : Word) : (s.setResult v).cmd = s.cmd := rfl
@[simp] theorem setResult_dataIn (v : Word) : (s.setResult v).dataIn = s.dataIn := rfl
@[simp] theorem setResult_status (v : Word) : (s.setResult v).status = s.status := rfl
@[simp] theorem setResult_result (v : Word) : (s.setResult v).result = v := rfl
@[simp] theorem setResult_txConfigured (v : Word) : (s.setResult v).txConfigured = s.txConfigured := rfl
@[simp] theorem setResult_txNcmd (v : Word) : (s.setResult v).txNcmd = s.txNcmd := rfl
@[simp] theorem setResult_txIndex (v : Word) : (s.setResult v).txIndex = s.txIndex := rfl
@[simp] theorem setResult_txCap (v : Word) : (s.setResult v).txCap = s.txCap := rfl
@[simp] theorem setResult_rxConfigured (v : Word) : (s.setResult v).rxConfigured = s.rxConfigured := rfl
@[simp] theorem setResult_rxIndex (v : Word) : (s.setResult v).rxIndex = s.rxIndex := rfl
@[simp] theorem setResult_rxCap (v : Word) : (s.setResult v).rxCap = s.rxCap := rfl
@[simp] theorem setResult_rxNumBytes (v : Word) : (s.setResult v).rxNumBytes = s.rxNumBytes := rfl
@[simp] theorem setResult_txbuf (v : Word) : (s.setResult v).txbuf = s.txbuf := rfl
@[simp] theorem setResult_rxbuf (v : Word) : (s.setResult v).rxbuf = s.rxbuf := rfl
@[simp] theorem setResult_cfg (v : Word) : (s.setResult v).cfg = s.cfg := rfl
@[simp] theorem setResult_epoch (v : Word) : (s.setResult v).epoch = s.epoch := rfl
@[simp] theorem setResult_pending (v : Word) : (s.setResult v).pending = s.pending := rfl
@[simp] theorem setResult_answer (v : Word) : (s.setResult v).answer = s.answer := rfl

@[simp] theorem setResult_readTx (v : Word) (j : Nat) : (s.setResult v).readTx j = s.readTx j := rfl
@[simp] theorem setResult_readRx (v : Word) (j : Nat) : (s.setResult v).readRx j = s.readRx j := rfl

/-! ### setTxIndex -/

@[simp] theorem setTxIndex_cmd (v : Half) : (s.setTxIndex v).cmd = s.cmd := rfl
@[simp] theorem setTxIndex_dataIn (v : Half) : (s.setTxIndex v).dataIn = s.dataIn := rfl
@[simp] theorem setTxIndex_status (v : Half) : (s.setTxIndex v).status = s.status := rfl
@[simp] theorem setTxIndex_result (v : Half) : (s.setTxIndex v).result = s.result := rfl
@[simp] theorem setTxIndex_txConfigured (v : Half) : (s.setTxIndex v).txConfigured = s.txConfigured := rfl
@[simp] theorem setTxIndex_txNcmd (v : Half) : (s.setTxIndex v).txNcmd = s.txNcmd := rfl
@[simp] theorem setTxIndex_txIndex (v : Half) : (s.setTxIndex v).txIndex = v := rfl
@[simp] theorem setTxIndex_txCap (v : Half) : (s.setTxIndex v).txCap = s.txCap := rfl
@[simp] theorem setTxIndex_rxConfigured (v : Half) : (s.setTxIndex v).rxConfigured = s.rxConfigured := rfl
@[simp] theorem setTxIndex_rxIndex (v : Half) : (s.setTxIndex v).rxIndex = s.rxIndex := rfl
@[simp] theorem setTxIndex_rxCap (v : Half) : (s.setTxIndex v).rxCap = s.rxCap := rfl
@[simp] theorem setTxIndex_rxNumBytes (v : Half) : (s.setTxIndex v).rxNumBytes = s.rxNumBytes := rfl
@[simp] theorem setTxIndex_txbuf (v : Half) : (s.setTxIndex v).txbuf = s.txbuf := rfl
@[simp] theorem setTxIndex_rxbuf (v : Half) : (s.setTxIndex v).rxbuf = s.rxbuf := rfl
@[simp] theorem setTxIndex_cfg (v : Half) : (s.setTxIndex v).cfg = s.cfg := rfl
@[simp] theorem setTxIndex_epoch (v : Half) : (s.setTxIndex v).epoch = s.epoch := rfl
@[simp] theorem setTxIndex_pending (v : Half) : (s.setTxIndex v).pending = s.pending := rfl
@[simp] theorem setTxIndex_answer (v : Half) : (s.setTxIndex v).answer = s.answer := rfl

@[simp] theorem setTxIndex_readTx (v : Half) (j : Nat) : (s.setTxIndex v).readTx j = s.readTx j := rfl
@[simp] theorem setTxIndex_readRx (v : Half) (j : Nat) : (s.setTxIndex v).readRx j = s.readRx j := rfl

/-! ### setRxIndex -/

@[simp] theorem setRxIndex_cmd (v : Half) : (s.setRxIndex v).cmd = s.cmd := rfl
@[simp] theorem setRxIndex_dataIn (v : Half) : (s.setRxIndex v).dataIn = s.dataIn := rfl
@[simp] theorem setRxIndex_status (v : Half) : (s.setRxIndex v).status = s.status := rfl
@[simp] theorem setRxIndex_result (v : Half) : (s.setRxIndex v).result = s.result := rfl
@[simp] theorem setRxIndex_txConfigured (v : Half) : (s.setRxIndex v).txConfigured = s.txConfigured := rfl
@[simp] theorem setRxIndex_txNcmd (v : Half) : (s.setRxIndex v).txNcmd = s.txNcmd := rfl
@[simp] theorem setRxIndex_txIndex (v : Half) : (s.setRxIndex v).txIndex = s.txIndex := rfl
@[simp] theorem setRxIndex_txCap (v : Half) : (s.setRxIndex v).txCap = s.txCap := rfl
@[simp] theorem setRxIndex_rxConfigured (v : Half) : (s.setRxIndex v).rxConfigured = s.rxConfigured := rfl
@[simp] theorem setRxIndex_rxIndex (v : Half) : (s.setRxIndex v).rxIndex = v := rfl
@[simp] theorem setRxIndex_rxCap (v : Half) : (s.setRxIndex v).rxCap = s.rxCap := rfl
@[simp] theorem setRxIndex_rxNumBytes (v : Half) : (s.setRxIndex v).rxNumBytes = s.rxNumBytes := rfl
@[simp] theorem setRxIndex_txbuf (v : Half) : (s.setRxIndex v).txbuf = s.txbuf := rfl
@[simp] theorem setRxIndex_rxbuf (v : Half) : (s.setRxIndex v).rxbuf = s.rxbuf := rfl
@[simp] theorem setRxIndex_cfg (v : Half) : (s.setRxIndex v).cfg = s.cfg := rfl
@[simp] theorem setRxIndex_epoch (v : Half) : (s.setRxIndex v).epoch = s.epoch := rfl
@[simp] theorem setRxIndex_pending (v : Half) : (s.setRxIndex v).pending = s.pending := rfl
@[simp] theorem setRxIndex_answer (v : Half) : (s.setRxIndex v).answer = s.answer := rfl

@[simp] theorem setRxIndex_readTx (v : Half) (j : Nat) : (s.setRxIndex v).readTx j = s.readTx j := rfl
@[simp] theorem setRxIndex_readRx (v : Half) (j : Nat) : (s.setRxIndex v).readRx j = s.readRx j := rfl

/-! ### setRxLen -/

@[simp] theorem setRxLen_cmd (n : Half) : (s.setRxLen n).cmd = s.cmd := rfl
@[simp] theorem setRxLen_dataIn (n : Half) : (s.setRxLen n).dataIn = s.dataIn := rfl
@[simp] theorem setRxLen_status (n : Half) : (s.setRxLen n).status = s.status := rfl
@[simp] theorem setRxLen_result (n : Half) : (s.setRxLen n).result = s.result := rfl
@[simp] theorem setRxLen_txConfigured (n : Half) : (s.setRxLen n).txConfigured = s.txConfigured := rfl
@[simp] theorem setRxLen_txNcmd (n : Half) : (s.setRxLen n).txNcmd = s.txNcmd := rfl
@[simp] theorem setRxLen_txIndex (n : Half) : (s.setRxLen n).txIndex = s.txIndex := rfl
@[simp] theorem setRxLen_txCap (n : Half) : (s.setRxLen n).txCap = s.txCap := rfl
@[simp] theorem setRxLen_rxConfigured (n : Half) : (s.setRxLen n).rxConfigured = s.rxConfigured := rfl
@[simp] theorem setRxLen_rxIndex (n : Half) : (s.setRxLen n).rxIndex = 0 := rfl
@[simp] theorem setRxLen_rxCap (n : Half) : (s.setRxLen n).rxCap = s.rxCap := rfl
@[simp] theorem setRxLen_rxNumBytes (n : Half) : (s.setRxLen n).rxNumBytes = n := rfl
@[simp] theorem setRxLen_txbuf (n : Half) : (s.setRxLen n).txbuf = s.txbuf := rfl
@[simp] theorem setRxLen_rxbuf (n : Half) : (s.setRxLen n).rxbuf = s.rxbuf := rfl
@[simp] theorem setRxLen_cfg (n : Half) : (s.setRxLen n).cfg = s.cfg := rfl
@[simp] theorem setRxLen_epoch (n : Half) : (s.setRxLen n).epoch = s.epoch := rfl
@[simp] theorem setRxLen_pending (n : Half) : (s.setRxLen n).pending = s.pending := rfl
@[simp] theorem setRxLen_answer (n : Half) : (s.setRxLen n).answer = s.answer := rfl

@[simp] theorem setRxLen_readTx (n : Half) (j : Nat) : (s.setRxLen n).readTx j = s.readTx j := rfl
@[simp] theorem setRxLen_readRx (n : Half) (j : Nat) : (s.setRxLen n).readRx j = s.readRx j := rfl

/-! ### txConfigure -/

@[simp] theorem txConfigure_cmd (n : BitVec 2) (cap : Half) : (s.txConfigure n cap).cmd = s.cmd := rfl
@[simp] theorem txConfigure_dataIn (n : BitVec 2) (cap : Half) : (s.txConfigure n cap).dataIn = s.dataIn := rfl
@[simp] theorem txConfigure_status (n : BitVec 2) (cap : Half) : (s.txConfigure n cap).status = s.status := rfl
@[simp] theorem txConfigure_result (n : BitVec 2) (cap : Half) : (s.txConfigure n cap).result = s.result := rfl
@[simp] theorem txConfigure_txConfigured (n : BitVec 2) (cap : Half) : (s.txConfigure n cap).txConfigured = true := rfl
@[simp] theorem txConfigure_txNcmd (n : BitVec 2) (cap : Half) : (s.txConfigure n cap).txNcmd = n := rfl
@[simp] theorem txConfigure_txIndex (n : BitVec 2) (cap : Half) : (s.txConfigure n cap).txIndex = 0 := rfl
@[simp] theorem txConfigure_txCap (n : BitVec 2) (cap : Half) : (s.txConfigure n cap).txCap = cap := rfl
@[simp] theorem txConfigure_rxConfigured (n : BitVec 2) (cap : Half) : (s.txConfigure n cap).rxConfigured = s.rxConfigured := rfl
@[simp] theorem txConfigure_rxIndex (n : BitVec 2) (cap : Half) : (s.txConfigure n cap).rxIndex = s.rxIndex := rfl
@[simp] theorem txConfigure_rxCap (n : BitVec 2) (cap : Half) : (s.txConfigure n cap).rxCap = s.rxCap := rfl
@[simp] theorem txConfigure_rxNumBytes (n : BitVec 2) (cap : Half) : (s.txConfigure n cap).rxNumBytes = s.rxNumBytes := rfl
@[simp] theorem txConfigure_txbuf (n : BitVec 2) (cap : Half) : (s.txConfigure n cap).txbuf = s.txbuf := rfl
@[simp] theorem txConfigure_rxbuf (n : BitVec 2) (cap : Half) : (s.txConfigure n cap).rxbuf = s.rxbuf := rfl
@[simp] theorem txConfigure_cfg (n : BitVec 2) (cap : Half) : (s.txConfigure n cap).cfg = s.cfg := rfl
@[simp] theorem txConfigure_epoch (n : BitVec 2) (cap : Half) : (s.txConfigure n cap).epoch = s.epoch := rfl
@[simp] theorem txConfigure_pending (n : BitVec 2) (cap : Half) : (s.txConfigure n cap).pending = s.pending := rfl
@[simp] theorem txConfigure_answer (n : BitVec 2) (cap : Half) : (s.txConfigure n cap).answer = s.answer := rfl

@[simp] theorem txConfigure_readTx (n : BitVec 2) (cap : Half) (j : Nat) : (s.txConfigure n cap).readTx j = s.readTx j := rfl
@[simp] theorem txConfigure_readRx (n : BitVec 2) (cap : Half) (j : Nat) : (s.txConfigure n cap).readRx j = s.readRx j := rfl

/-! ### txUnconfigure -/

@[simp] theorem txUnconfigure_cmd : (s.txUnconfigure).cmd = s.cmd := rfl
@[simp] theorem txUnconfigure_dataIn : (s.txUnconfigure).dataIn = s.dataIn := rfl
@[simp] theorem txUnconfigure_status : (s.txUnconfigure).status = s.status := rfl
@[simp] theorem txUnconfigure_result : (s.txUnconfigure).result = s.result := rfl
@[simp] theorem txUnconfigure_txConfigured : (s.txUnconfigure).txConfigured = false := rfl
@[simp] theorem txUnconfigure_txNcmd : (s.txUnconfigure).txNcmd = 0 := rfl
@[simp] theorem txUnconfigure_txIndex : (s.txUnconfigure).txIndex = 0 := rfl
@[simp] theorem txUnconfigure_txCap : (s.txUnconfigure).txCap = 0 := rfl
@[simp] theorem txUnconfigure_rxConfigured : (s.txUnconfigure).rxConfigured = s.rxConfigured := rfl
@[simp] theorem txUnconfigure_rxIndex : (s.txUnconfigure).rxIndex = s.rxIndex := rfl
@[simp] theorem txUnconfigure_rxCap : (s.txUnconfigure).rxCap = s.rxCap := rfl
@[simp] theorem txUnconfigure_rxNumBytes : (s.txUnconfigure).rxNumBytes = s.rxNumBytes := rfl
@[simp] theorem txUnconfigure_txbuf : (s.txUnconfigure).txbuf = s.txbuf := rfl
@[simp] theorem txUnconfigure_rxbuf : (s.txUnconfigure).rxbuf = s.rxbuf := rfl
@[simp] theorem txUnconfigure_cfg : (s.txUnconfigure).cfg = s.cfg := rfl
@[simp] theorem txUnconfigure_epoch : (s.txUnconfigure).epoch = s.epoch := rfl
@[simp] theorem txUnconfigure_pending : (s.txUnconfigure).pending = s.pending := rfl
@[simp] theorem txUnconfigure_answer : (s.txUnconfigure).answer = s.answer := rfl

@[simp] theorem txUnconfigure_readTx (j : Nat) : (s.txUnconfigure).readTx j = s.readTx j := rfl
@[simp] theorem txUnconfigure_readRx (j : Nat) : (s.txUnconfigure).readRx j = s.readRx j := rfl

/-! ### rxConfigure -/

@[simp] theorem rxConfigure_cmd (cap : Half) : (s.rxConfigure cap).cmd = s.cmd := rfl
@[simp] theorem rxConfigure_dataIn (cap : Half) : (s.rxConfigure cap).dataIn = s.dataIn := rfl
@[simp] theorem rxConfigure_status (cap : Half) : (s.rxConfigure cap).status = s.status := rfl
@[simp] theorem rxConfigure_result (cap : Half) : (s.rxConfigure cap).result = s.result := rfl
@[simp] theorem rxConfigure_txConfigured (cap : Half) : (s.rxConfigure cap).txConfigured = s.txConfigured := rfl
@[simp] theorem rxConfigure_txNcmd (cap : Half) : (s.rxConfigure cap).txNcmd = s.txNcmd := rfl
@[simp] theorem rxConfigure_txIndex (cap : Half) : (s.rxConfigure cap).txIndex = s.txIndex := rfl
@[simp] theorem rxConfigure_txCap (cap : Half) : (s.rxConfigure cap).txCap = s.txCap := rfl
@[simp] theorem rxConfigure_rxConfigured (cap : Half) : (s.rxConfigure cap).rxConfigured = true := rfl
@[simp] theorem rxConfigure_rxIndex (cap : Half) : (s.rxConfigure cap).rxIndex = 0 := rfl
@[simp] theorem rxConfigure_rxCap (cap : Half) : (s.rxConfigure cap).rxCap = cap := rfl
@[simp] theorem rxConfigure_rxNumBytes (cap : Half) : (s.rxConfigure cap).rxNumBytes = 0 := rfl
@[simp] theorem rxConfigure_txbuf (cap : Half) : (s.rxConfigure cap).txbuf = s.txbuf := rfl
@[simp] theorem rxConfigure_rxbuf (cap : Half) : (s.rxConfigure cap).rxbuf = s.rxbuf := rfl
@[simp] theorem rxConfigure_cfg (cap : Half) : (s.rxConfigure cap).cfg = s.cfg := rfl
@[simp] theorem rxConfigure_epoch (cap : Half) : (s.rxConfigure cap).epoch = s.epoch := rfl
@[simp] theorem rxConfigure_pending (cap : Half) : (s.rxConfigure cap).pending = s.pending := rfl
@[simp] theorem rxConfigure_answer (cap : Half) : (s.rxConfigure cap).answer = s.answer := rfl

@[simp] theorem rxConfigure_readTx (cap : Half) (j : Nat) : (s.rxConfigure cap).readTx j = s.readTx j := rfl
@[simp] theorem rxConfigure_readRx (cap : Half) (j : Nat) : (s.rxConfigure cap).readRx j = s.readRx j := rfl

/-! ### rxUnconfigure -/

@[simp] theorem rxUnconfigure_cmd : (s.rxUnconfigure).cmd = s.cmd := rfl
@[simp] theorem rxUnconfigure_dataIn : (s.rxUnconfigure).dataIn = s.dataIn := rfl
@[simp] theorem rxUnconfigure_status : (s.rxUnconfigure).status = s.status := rfl
@[simp] theorem rxUnconfigure_result : (s.rxUnconfigure).result = s.result := rfl
@[simp] theorem rxUnconfigure_txConfigured : (s.rxUnconfigure).txConfigured = s.txConfigured := rfl
@[simp] theorem rxUnconfigure_txNcmd : (s.rxUnconfigure).txNcmd = s.txNcmd := rfl
@[simp] theorem rxUnconfigure_txIndex : (s.rxUnconfigure).txIndex = s.txIndex := rfl
@[simp] theorem rxUnconfigure_txCap : (s.rxUnconfigure).txCap = s.txCap := rfl
@[simp] theorem rxUnconfigure_rxConfigured : (s.rxUnconfigure).rxConfigured = false := rfl
@[simp] theorem rxUnconfigure_rxIndex : (s.rxUnconfigure).rxIndex = 0 := rfl
@[simp] theorem rxUnconfigure_rxCap : (s.rxUnconfigure).rxCap = 0 := rfl
@[simp] theorem rxUnconfigure_rxNumBytes : (s.rxUnconfigure).rxNumBytes = 0 := rfl
@[simp] theorem rxUnconfigure_txbuf : (s.rxUnconfigure).txbuf = s.txbuf := rfl
@[simp] theorem rxUnconfigure_rxbuf : (s.rxUnconfigure).rxbuf = s.rxbuf := rfl
@[simp] theorem rxUnconfigure_cfg : (s.rxUnconfigure).cfg = s.cfg := rfl
@[simp] theorem rxUnconfigure_epoch : (s.rxUnconfigure).epoch = s.epoch := rfl
@[simp] theorem rxUnconfigure_pending : (s.rxUnconfigure).pending = s.pending := rfl
@[simp] theorem rxUnconfigure_answer : (s.rxUnconfigure).answer = s.answer := rfl

@[simp] theorem rxUnconfigure_readTx (j : Nat) : (s.rxUnconfigure).readTx j = s.readTx j := rfl
@[simp] theorem rxUnconfigure_readRx (j : Nat) : (s.rxUnconfigure).readRx j = s.readRx j := rfl

/-! ### setAnswer -/

@[simp] theorem setAnswer_cmd (a : Answer) : (s.setAnswer a).cmd = s.cmd := rfl
@[simp] theorem setAnswer_dataIn (a : Answer) : (s.setAnswer a).dataIn = s.dataIn := rfl
@[simp] theorem setAnswer_status (a : Answer) : (s.setAnswer a).status = s.status := rfl
@[simp] theorem setAnswer_result (a : Answer) : (s.setAnswer a).result = s.result := rfl
@[simp] theorem setAnswer_txConfigured (a : Answer) : (s.setAnswer a).txConfigured = s.txConfigured := rfl
@[simp] theorem setAnswer_txNcmd (a : Answer) : (s.setAnswer a).txNcmd = s.txNcmd := rfl
@[simp] theorem setAnswer_txIndex (a : Answer) : (s.setAnswer a).txIndex = s.txIndex := rfl
@[simp] theorem setAnswer_txCap (a : Answer) : (s.setAnswer a).txCap = s.txCap := rfl
@[simp] theorem setAnswer_rxConfigured (a : Answer) : (s.setAnswer a).rxConfigured = s.rxConfigured := rfl
@[simp] theorem setAnswer_rxIndex (a : Answer) : (s.setAnswer a).rxIndex = s.rxIndex := rfl
@[simp] theorem setAnswer_rxCap (a : Answer) : (s.setAnswer a).rxCap = s.rxCap := rfl
@[simp] theorem setAnswer_rxNumBytes (a : Answer) : (s.setAnswer a).rxNumBytes = s.rxNumBytes := rfl
@[simp] theorem setAnswer_txbuf (a : Answer) : (s.setAnswer a).txbuf = s.txbuf := rfl
@[simp] theorem setAnswer_rxbuf (a : Answer) : (s.setAnswer a).rxbuf = s.rxbuf := rfl
@[simp] theorem setAnswer_cfg (a : Answer) : (s.setAnswer a).cfg = s.cfg := rfl
@[simp] theorem setAnswer_epoch (a : Answer) : (s.setAnswer a).epoch = s.epoch := rfl
@[simp] theorem setAnswer_pending (a : Answer) : (s.setAnswer a).pending = s.pending := rfl
@[simp] theorem setAnswer_answer (a : Answer) : (s.setAnswer a).answer = some a := rfl

@[simp] theorem setAnswer_readTx (a : Answer) (j : Nat) : (s.setAnswer a).readTx j = s.readTx j := rfl
@[simp] theorem setAnswer_readRx (a : Answer) (j : Nat) : (s.setAnswer a).readRx j = s.readRx j := rfl

/-! ### setPending -/

@[simp] theorem setPending_cmd (es : List HostEvent) : (s.setPending es).cmd = s.cmd := rfl
@[simp] theorem setPending_dataIn (es : List HostEvent) : (s.setPending es).dataIn = s.dataIn := rfl
@[simp] theorem setPending_status (es : List HostEvent) : (s.setPending es).status = s.status := rfl
@[simp] theorem setPending_result (es : List HostEvent) : (s.setPending es).result = s.result := rfl
@[simp] theorem setPending_txConfigured (es : List HostEvent) : (s.setPending es).txConfigured = s.txConfigured := rfl
@[simp] theorem setPending_txNcmd (es : List HostEvent) : (s.setPending es).txNcmd = s.txNcmd := rfl
@[simp] theorem setPending_txIndex (es : List HostEvent) : (s.setPending es).txIndex = s.txIndex := rfl
@[simp] theorem setPending_txCap (es : List HostEvent) : (s.setPending es).txCap = s.txCap := rfl
@[simp] theorem setPending_rxConfigured (es : List HostEvent) : (s.setPending es).rxConfigured = s.rxConfigured := rfl
@[simp] theorem setPending_rxIndex (es : List HostEvent) : (s.setPending es).rxIndex = s.rxIndex := rfl
@[simp] theorem setPending_rxCap (es : List HostEvent) : (s.setPending es).rxCap = s.rxCap := rfl
@[simp] theorem setPending_rxNumBytes (es : List HostEvent) : (s.setPending es).rxNumBytes = s.rxNumBytes := rfl
@[simp] theorem setPending_txbuf (es : List HostEvent) : (s.setPending es).txbuf = s.txbuf := rfl
@[simp] theorem setPending_rxbuf (es : List HostEvent) : (s.setPending es).rxbuf = s.rxbuf := rfl
@[simp] theorem setPending_cfg (es : List HostEvent) : (s.setPending es).cfg = s.cfg := rfl
@[simp] theorem setPending_epoch (es : List HostEvent) : (s.setPending es).epoch = s.epoch := rfl
@[simp] theorem setPending_pending (es : List HostEvent) : (s.setPending es).pending = es := rfl
@[simp] theorem setPending_answer (es : List HostEvent) : (s.setPending es).answer = s.answer := rfl

@[simp] theorem setPending_readTx (es : List HostEvent) (j : Nat) : (s.setPending es).readTx j = s.readTx j := rfl
@[simp] theorem setPending_readRx (es : List HostEvent) (j : Nat) : (s.setPending es).readRx j = s.readRx j := rfl

/-! ### ok -/

@[simp] theorem ok_cmd : (s.ok).cmd = s.cmd := rfl
@[simp] theorem ok_dataIn : (s.ok).dataIn = s.dataIn := rfl
@[simp] theorem ok_status : (s.ok).status = statusWord 0 (s.cmd.extractLsb' 0 8) okCode := rfl
@[simp] theorem ok_result : (s.ok).result = s.result := rfl
@[simp] theorem ok_txConfigured : (s.ok).txConfigured = s.txConfigured := rfl
@[simp] theorem ok_txNcmd : (s.ok).txNcmd = s.txNcmd := rfl
@[simp] theorem ok_txIndex : (s.ok).txIndex = s.txIndex := rfl
@[simp] theorem ok_txCap : (s.ok).txCap = s.txCap := rfl
@[simp] theorem ok_rxConfigured : (s.ok).rxConfigured = s.rxConfigured := rfl
@[simp] theorem ok_rxIndex : (s.ok).rxIndex = s.rxIndex := rfl
@[simp] theorem ok_rxCap : (s.ok).rxCap = s.rxCap := rfl
@[simp] theorem ok_rxNumBytes : (s.ok).rxNumBytes = s.rxNumBytes := rfl
@[simp] theorem ok_txbuf : (s.ok).txbuf = s.txbuf := rfl
@[simp] theorem ok_rxbuf : (s.ok).rxbuf = s.rxbuf := rfl
@[simp] theorem ok_cfg : (s.ok).cfg = s.cfg := rfl
@[simp] theorem ok_epoch : (s.ok).epoch = s.epoch := rfl
@[simp] theorem ok_pending : (s.ok).pending = s.pending := rfl
@[simp] theorem ok_answer : (s.ok).answer = s.answer := rfl

@[simp] theorem ok_readTx (j : Nat) : (s.ok).readTx j = s.readTx j := rfl
@[simp] theorem ok_readRx (j : Nat) : (s.ok).readRx j = s.readRx j := rfl

/-! ### raise -/

@[simp] theorem raise_cmd (e : ErrorKind) (off : Nat) : (s.raise e off).cmd = s.cmd := rfl
@[simp] theorem raise_dataIn (e : ErrorKind) (off : Nat) : (s.raise e off).dataIn = s.dataIn := rfl
@[simp] theorem raise_status (e : ErrorKind) (off : Nat) : (s.raise e off).status = statusWord (BitVec.ofNat 16 off) (s.cmd.extractLsb' 0 8) e.code := rfl
@[simp] theorem raise_result (e : ErrorKind) (off : Nat) : (s.raise e off).result = s.result := rfl
@[simp] theorem raise_txConfigured (e : ErrorKind) (off : Nat) : (s.raise e off).txConfigured = s.txConfigured := rfl
@[simp] theorem raise_txNcmd (e : ErrorKind) (off : Nat) : (s.raise e off).txNcmd = s.txNcmd := rfl
@[simp] theorem raise_txIndex (e : ErrorKind) (off : Nat) : (s.raise e off).txIndex = s.txIndex := rfl
@[simp] theorem raise_txCap (e : ErrorKind) (off : Nat) : (s.raise e off).txCap = s.txCap := rfl
@[simp] theorem raise_rxConfigured (e : ErrorKind) (off : Nat) : (s.raise e off).rxConfigured = s.rxConfigured := rfl
@[simp] theorem raise_rxIndex (e : ErrorKind) (off : Nat) : (s.raise e off).rxIndex = s.rxIndex := rfl
@[simp] theorem raise_rxCap (e : ErrorKind) (off : Nat) : (s.raise e off).rxCap = s.rxCap := rfl
@[simp] theorem raise_rxNumBytes (e : ErrorKind) (off : Nat) : (s.raise e off).rxNumBytes = s.rxNumBytes := rfl
@[simp] theorem raise_txbuf (e : ErrorKind) (off : Nat) : (s.raise e off).txbuf = s.txbuf := rfl
@[simp] theorem raise_rxbuf (e : ErrorKind) (off : Nat) : (s.raise e off).rxbuf = s.rxbuf := rfl
@[simp] theorem raise_cfg (e : ErrorKind) (off : Nat) : (s.raise e off).cfg = s.cfg := rfl
@[simp] theorem raise_epoch (e : ErrorKind) (off : Nat) : (s.raise e off).epoch = s.epoch := rfl
@[simp] theorem raise_pending (e : ErrorKind) (off : Nat) : (s.raise e off).pending = s.pending := rfl
@[simp] theorem raise_answer (e : ErrorKind) (off : Nat) : (s.raise e off).answer = s.answer := rfl

@[simp] theorem raise_readTx (e : ErrorKind) (off : Nat) (j : Nat) : (s.raise e off).readTx j = s.readTx j := rfl
@[simp] theorem raise_readRx (e : ErrorKind) (off : Nat) (j : Nat) : (s.raise e off).readRx j = s.readRx j := rfl

end State
end Sys2Proof.Machine
end

