-- ==== Sys2Proof/Laws/Memory.lean ====
section
/-! SUPPORT. The laws of a buffer memory: a read after a write, and the canonical form. -/

namespace Sys2Proof.Machine

theorem Memory.lookup_write_self (a : Nat) (b : Byte) (m : Memory) : Memory.lookup a (Memory.write a b m) = some b := by
  induction m with
  | nil => simp [Memory.write, Memory.lookup]
  | cons c m ih =>
    obtain ⟨a', b'⟩ := c
    simp only [Memory.write]
    split
    · simp [Memory.lookup]
    · split
      · simp [Memory.lookup]
      · rename_i h
        simp [Memory.lookup, h, ih]

theorem Memory.lookup_write_other {a j : Nat} (h : j ≠ a) (b : Byte) (m : Memory) :
    Memory.lookup j (Memory.write a b m) = Memory.lookup j m := by
  induction m with
  | nil => simp [Memory.write, Memory.lookup, h]
  | cons c m ih =>
    obtain ⟨a', b'⟩ := c
    simp only [Memory.write]
    split
    · simp [Memory.lookup, h]
    · split
      · rename_i ha
        subst ha
        simp [Memory.lookup, h]
      · simp [Memory.lookup, ih]

/-- What a read finds after a write, in one equation. -/
theorem Memory.lookup_write (a j : Nat) (b : Byte) (m : Memory) :
    Memory.lookup j (Memory.write a b m) = if j = a then some b else Memory.lookup j m := by
  split
  · rename_i h
    rw [h, Memory.lookup_write_self]
  · rename_i h
    exact Memory.lookup_write_other h b m

/-- A write keeps the canonical form. -/
theorem Memory.wfFrom_write {lo limit a : Nat} {m : Memory} (b : Byte) (hm : Memory.wfFrom lo limit m = true)
    (hlo : lo ≤ a) (ha : a < limit) : Memory.wfFrom lo limit (Memory.write a b m) = true := by
  induction m generalizing lo with
  | nil => simp [Memory.write, Memory.wfFrom, hlo, ha]
  | cons c m ih =>
    obtain ⟨a', b'⟩ := c
    simp only [Memory.wfFrom, Bool.and_eq_true, decide_eq_true_eq] at hm
    simp only [Memory.write]
    split
    · rename_i h
      simp only [Memory.wfFrom, Bool.and_eq_true, decide_eq_true_eq]
      exact ⟨⟨hlo, ha⟩, ⟨by omega, hm.1.2⟩, hm.2⟩
    · split
      · rename_i h
        subst h
        simp only [Memory.wfFrom, Bool.and_eq_true, decide_eq_true_eq]
        exact ⟨⟨hlo, ha⟩, hm.2⟩
      · simp only [Memory.wfFrom, Bool.and_eq_true, decide_eq_true_eq]
        exact ⟨hm.1, ih hm.2 (by omega)⟩

theorem Memory.wf_write {limit a : Nat} {m : Memory} (b : Byte) (hm : Memory.wf limit m = true) (ha : a < limit) :
    Memory.wf limit (Memory.write a b m) = true :=
  Memory.wfFrom_write b hm (Nat.zero_le a) ha

theorem Memory.wf_nil (limit : Nat) : Memory.wf limit [] = true := rfl

theorem Memory.lookup_below {lo limit j : Nat} {m : Memory} (hm : Memory.wfFrom lo limit m = true) (hj : j < lo) :
    Memory.lookup j m = none := by
  induction m generalizing lo with
  | nil => rfl
  | cons c m ih =>
    obtain ⟨a', b'⟩ := c
    simp only [Memory.wfFrom, Bool.and_eq_true, decide_eq_true_eq] at hm
    have hne : j ≠ a' := by omega
    simp only [Memory.lookup, hne, if_false]
    exact ih hm.2 (by omega)

/-- The form is canonical: two memories in it that hold the same bytes are the same data. -/
theorem Memory.eq_of_lookup {lo limit : Nat} {m m' : Memory} (hm : Memory.wfFrom lo limit m = true)
    (hm' : Memory.wfFrom lo limit m' = true) (h : ∀ j, Memory.lookup j m = Memory.lookup j m') : m = m' := by
  induction m generalizing lo m' with
  | nil =>
    cases m' with
    | nil => rfl
    | cons c m' =>
      have := h c.1
      simp [Memory.lookup] at this
  | cons c m ih =>
    obtain ⟨a, b⟩ := c
    cases m' with
    | nil =>
      have := h a
      simp [Memory.lookup] at this
    | cons c' m' =>
      obtain ⟨a', b'⟩ := c'
      simp only [Memory.wfFrom, Bool.and_eq_true, decide_eq_true_eq] at hm hm'
      have hne : a = a' := by
        by_contra hne
        rcases Nat.lt_or_gt_of_ne hne with hlt | hlt
        · have h1 := h a
          simp only [Memory.lookup, if_true, hne, if_false] at h1
          rw [Memory.lookup_below hm'.2 (by omega)] at h1
          exact absurd h1 (by simp)
        · have h1 := h a'
          simp only [Memory.lookup, if_true, Ne.symm hne, if_false] at h1
          rw [Memory.lookup_below hm.2 (by omega)] at h1
          exact absurd h1 (by simp)
      subst hne
      have hb : b = b' := by simpa [Memory.lookup] using h a
      subst hb
      have htail : ∀ j, Memory.lookup j m = Memory.lookup j m' := by
        intro j
        by_cases hj : j = a
        · rw [hj, Memory.lookup_below hm.2 (by omega), Memory.lookup_below hm'.2 (by omega)]
        · simpa [Memory.lookup, hj] using h j
      rw [ih hm.2 hm'.2 htail]

/-- TXBUF after a write of one byte. -/
theorem State.writeTx_readTx (s : State) (i j : Nat) (b : Byte) :
    (s.writeTx i b).readTx j = if j = i then b else s.readTx j := by
  simp only [State.readTx, State.writeTx_txbuf, State.writeTx_epoch, Memory.lookup_write]
  split <;> rfl

/-- RXBUF after a write of one byte. -/
theorem State.writeRx_readRx (s : State) (i j : Nat) (b : Byte) :
    (s.writeRx i b).readRx j = if j = i then b else s.readRx j := by
  simp only [State.readRx, State.writeRx_rxbuf, State.writeRx_epoch, Memory.lookup_write]
  split <;> rfl

end Sys2Proof.Machine
end

