-- ==== Sys2Proof/Laws/Operands.lean ====
section
/-! SUPPORT. The bytes of the operand forms, as slices of DATA_IN (spec/30_encoding.md R74, spec/20_memory.md R58). -/

namespace Sys2Proof.Machine

theorem highByte_slice (d : Word) (lo : Nat) : highByte (d.extractLsb' lo 16) = d.extractLsb' (lo + 8) 8 := by
  apply BitVec.eq_of_getLsbD_eq
  intro i hi
  simp [highByte, hi, show 8 + i < 16 by omega, Nat.add_assoc]

theorem lowByte_slice (d : Word) (lo : Nat) : lowByte (d.extractLsb' lo 16) = d.extractLsb' lo 8 := by
  apply BitVec.eq_of_getLsbD_eq
  intro i hi
  simp [lowByte, hi, show i < 16 by omega]

theorem highByte_commandCode (d : Word) : highByte (commandCode d) = d.extractLsb' 8 8 := highByte_slice d 0

theorem lowByte_commandCode (d : Word) : lowByte (commandCode d) = d.extractLsb' 0 8 := lowByte_slice d 0

/-- One group is the low half of the value (R105). -/
theorem valueGroups_one (v : Word) : valueGroups v 1 = [v.extractLsb' 0 16] := rfl

/-- Two groups are the high half and then the low half (R58). -/
theorem valueGroups_two (v : Word) : valueGroups v 2 = [v.extractLsb' 16 16, v.extractLsb' 0 16] := rfl

/-- The bytes of a group value {h, l} are h and l. -/
theorem highByte_groupValue (h l : Byte) : highByte (groupValue h l) = h := by
  apply BitVec.eq_of_getLsbD_eq
  intro i hi
  simp [highByte, groupValue, hi, show 8 + i < 16 by omega]

theorem lowByte_groupValue (h l : Byte) : lowByte (groupValue h l) = l := by
  apply BitVec.eq_of_getLsbD_eq
  intro i hi
  simp [lowByte, groupValue, hi, show i < 16 by omega]

/-- A group value is put together from its bytes. -/
theorem groupValue_bytes (d : Half) : groupValue (highByte d) (lowByte d) = d := by
  apply BitVec.eq_of_getLsbD_eq
  intro i hi
  by_cases h : i < 8
  · simp [groupValue, highByte, lowByte, hi, h]
  · simp [groupValue, highByte, lowByte, hi, h, show i - 8 < 8 by omega,
      show 8 + (i - 8) = i by omega]

end Sys2Proof.Machine
end

