-- ==== Sys2Proof/Laws/PerInstr.lean ====
section
/-! SUPPORT. One lemma for each constructor of `Instr` about its encoding: the opcode byte of the row, no reserved bit
set, and NCMD and LEN set only where the row uses them (spec/30_encoding.md R70, R72, R73, R75). -/

namespace Sys2Proof

/-- The opcode of each row (R75). -/
def opcodeOf : Instr → Byte
  | .nop => 0x00
  | .crcCalc _ => 0x01
  | .crcCheck => 0x02
  | .txInit _ _ => 0x10
  | .txInitCmd _ _ => 0x11
  | .txAddCmd => 0x12
  | .txAddU16 => 0x13
  | .txAddU32 => 0x14
  | .txAddF32 => 0x15
  | .rxInit _ => 0x20
  | .rxSetLen _ => 0x21
  | .rxGetU16 => 0x22
  | .rxGetU32 => 0x23
  | .rxGetF32 => 0x24

end Sys2Proof

namespace Sys2Proof.Laws.EncodedFields

/-- The fields of the word a command is encoded as, and that the opcode names the command again. -/
def Statement (i : Instr) : Prop :=
  opField (encode i) = opcodeOf i ∧ rsvField (encode i) = 0 ∧
  (usesNcmd (opcodeOf i) = false → ncmdField (encode i) = 0) ∧
  (usesLen (opcodeOf i) = false → lenField (encode i) = 0) ∧
  instrOf (opField (encode i)) (ncmdField (encode i)) (lenField (encode i)) = some i

theorem nop : Statement .nop := by simp [Statement, encode, opcodeOf, instrOf]
theorem crcCalc (len : Half) : Statement (.crcCalc len) := by
  simp [Statement, encode, opcodeOf, instrOf, usesNcmd, usesLen]
theorem crcCheck : Statement .crcCheck := by simp [Statement, encode, opcodeOf, instrOf]
theorem txInit (ncmd : BitVec 2) (cap : Half) : Statement (.txInit ncmd cap) := by
  simp [Statement, encode, opcodeOf, instrOf, usesNcmd, usesLen]
theorem txInitCmd (ncmd : BitVec 2) (cap : Half) : Statement (.txInitCmd ncmd cap) := by
  simp [Statement, encode, opcodeOf, instrOf, usesNcmd, usesLen]
theorem txAddCmd : Statement .txAddCmd := by simp [Statement, encode, opcodeOf, instrOf]
theorem txAddU16 : Statement .txAddU16 := by simp [Statement, encode, opcodeOf, instrOf]
theorem txAddU32 : Statement .txAddU32 := by simp [Statement, encode, opcodeOf, instrOf]
theorem txAddF32 : Statement .txAddF32 := by simp [Statement, encode, opcodeOf, instrOf]
theorem rxInit (cap : Half) : Statement (.rxInit cap) := by
  simp [Statement, encode, opcodeOf, instrOf, usesNcmd, usesLen]
theorem rxSetLen (n : Half) : Statement (.rxSetLen n) := by
  simp [Statement, encode, opcodeOf, instrOf, usesNcmd, usesLen]
theorem rxGetU16 : Statement .rxGetU16 := by simp [Statement, encode, opcodeOf, instrOf]
theorem rxGetU32 : Statement .rxGetU32 := by simp [Statement, encode, opcodeOf, instrOf]
theorem rxGetF32 : Statement .rxGetF32 := by simp [Statement, encode, opcodeOf, instrOf]

end Sys2Proof.Laws.EncodedFields
end

