-- ==== Sys2Proof/Laws/Port.lean ====
section
/-! SUPPORT. What the host port does (spec/20_memory.md R50 to R56), said once. -/

namespace Sys2Proof.Machine

/-- Inside FRAMER an address is its offset (R50). -/
theorem offsetOf_base (p : Params) (off : Nat) (h : off < 0x3000) : offsetOf p (p.base + off) = some off := by
  unfold offsetOf spanBytes
  rw [if_pos (by omega)]
  simp

/-- A register's offset holds that register, whatever MAX_CAP is. -/
theorem region_register (maxCap : Nat) (r : Reg) : region maxCap r.offset = .register r := by
  cases r <;> rfl

/-- The TX window (R51). -/
theorem region_txWindow (maxCap i : Nat) (h : i < maxCap) (hi : i < 0x1000) :
    region maxCap (0x1000 + i) = .txWindow i := by
  unfold region txWindowOffset rxWindowOffset
  rw [if_neg (by omega), if_pos (by omega), if_pos (by omega)]
  simp

/-- The RX window (R51). -/
theorem region_rxWindow (maxCap i : Nat) (h : i < maxCap) (hi : i < 0x1000) :
    region maxCap (0x2000 + i) = .rxWindow i := by
  unfold region txWindowOffset rxWindowOffset spanBytes
  rw [if_neg (by omega), if_neg (by omega), if_pos (by omega), if_pos (by omega)]
  simp

theorem step_nil (s : State) (h : s.pending = []) : step s = .next s := by simp [step, takeEvent, h]

theorem step_cons (s : State) (e : HostEvent) (es : List HostEvent) (h : s.pending = e :: es) :
    step s = hostEvent e (s.setPending es) := by simp [step, takeEvent, h]

/-- An access inside FRAMER, by its offset. -/
theorem portAccess_read (bits off : Nat) (s : State) (h : off < 0x3000) :
    portAccess (.read bits (s.cfg.base + off)) s = portRead bits off s := by
  simp only [portAccess, Access.addr, offsetOf_base _ _ h]

theorem portAccess_write (bits off : Nat) (v : BitVec bits) (s : State) (h : off < 0x3000) :
    portAccess (.write bits (s.cfg.base + off) v) s = portWrite bits off v s := by
  simp only [portAccess, Access.addr, offsetOf_base _ _ h]

/-- A 32-bit write at a register's offset writes that register. -/
theorem portWrite_register (r : Reg) (v : Word) (s : State) : portWrite 32 r.offset v s = writeReg r v s := by
  simp [portWrite, region_register]

/-- An access of a width that is neither 32 nor 8 bits gets a bus error at every offset (R52, R53, R54). -/
theorem portRead_otherWidth (bits off : Nat) (s : State) (h32 : bits ≠ 32) (h8 : bits ≠ 8) :
    ∃ c, portRead bits off s = busError c := by
  unfold portRead
  cases region s.cfg.maxCap off <;> simp [h32, h8]

theorem portWrite_otherWidth (bits off : Nat) (v : BitVec bits) (s : State) (h32 : bits ≠ 32) (h8 : bits ≠ 8) :
    ∃ c, portWrite bits off v s = busError c := by
  unfold portWrite
  cases region s.cfg.maxCap off <;> simp [h32, h8]

/-- A pending CMD write is a command (R23, R141). -/
theorem step_commandEvent (s : State) (w : Word) (es : List HostEvent)
    (h : s.pending = commandEvent s.cfg w :: es) :
    step s = command w ((s.setPending es).setAnswer .done) := by
  rw [step_cons s _ es h]
  exact (portAccess_write 32 Reg.cmd.offset w (s.setPending es) (by decide)).trans (portWrite_register .cmd w _)

end Sys2Proof.Machine
end

