-- ==== Sys2Proof/Laws/Status.lean ====
section
/-! SUPPORT. The fields of STATUS, and what `ok` and `raise` report. -/

namespace Sys2Proof.Machine

@[simp] theorem statusCode_statusWord (o : Half) (op : Byte) (c : BitVec 4) : statusCode (statusWord o op c) = c := by
  apply BitVec.eq_of_getLsbD_eq
  intro i hi
  have h1 : i < 16 := by omega
  have h2 : i < 8 := by omega
  simp [statusCode, statusWord, hi, h1, h2, show i < 32 by omega]

@[simp] theorem statusReserved_statusWord (o : Half) (op : Byte) (c : BitVec 4) :
    statusReserved (statusWord o op c) = 0 := by
  apply BitVec.eq_of_getLsbD_eq
  intro i hi
  simp [statusReserved, statusWord, hi, show 4 + i < 16 by omega, show 4 + i < 8 by omega]

@[simp] theorem statusLastOp_statusWord (o : Half) (op : Byte) (c : BitVec 4) :
    statusLastOp (statusWord o op c) = op := by
  apply BitVec.eq_of_getLsbD_eq
  intro i hi
  simp [statusLastOp, statusWord, hi, show 8 + i < 16 by omega, show 8 + i < 32 by omega,
    BitVec.getLsbD_of_ge c (8 + i) (by omega)]

@[simp] theorem statusErrOffset_statusWord (o : Half) (op : Byte) (c : BitVec 4) :
    statusErrOffset (statusWord o op c) = o := by
  apply BitVec.eq_of_getLsbD_eq
  intro i hi
  simp [statusErrOffset, statusWord, hi, show 16 + i < 32 by omega, show 8 ≤ 16 + i - 8 by omega,
    BitVec.getLsbD_of_ge c (16 + i) (by omega)]

/-- An error's code is never the code of a success. -/
theorem ErrorKind.code_ne_ok (e : ErrorKind) : e.code ≠ okCode := by cases e <;> decide

/-- An error's code is one the spec numbers. -/
theorem ErrorKind.code_le (e : ErrorKind) : e.code.toNat ≤ 5 := by cases e <;> decide

end Sys2Proof.Machine
end

