-- ==== Sys2Proof/Laws/Rx.lean ====
section
/-! SUPPORT. What the RX operations can do (spec/42_rx_decoder.md R120, R121), said once. -/

namespace Sys2Proof.Machine

/-- rx_group (R121) answers the group's value exactly when its checksum is right. -/
theorem rxGroup_some (s : State) (o : Nat) (d : Half) :
    rxGroup s o = some d ↔
      groupChecksum (s.readRx o) (s.readRx (o + 1)) = s.readRx (o + 2) ∧
      d = groupValue (s.readRx o) (s.readRx (o + 1)) := by
  unfold rxGroup
  by_cases h : groupChecksum (s.readRx o) (s.readRx (o + 1)) = s.readRx (o + 2)
  · simp [h, eq_comm]
  · simp [h]

theorem rxGroup_none (s : State) (o : Nat) :
    rxGroup s o = none ↔ groupChecksum (s.readRx o) (s.readRx (o + 1)) ≠ s.readRx (o + 2) := by
  unfold rxGroup
  by_cases h : groupChecksum (s.readRx o) (s.readRx (o + 1)) = s.readRx (o + 2) <;> simp [h]

/-- Everything rx_get can do (R120): one of three refusals, where only STATUS changes, or the value, the index and
OK. -/
theorem rxGet_cases (G : Nat) (s : State) :
    (s.rxConfigured = false ∧ rxGet G s = s.raise .invalidConfiguration 0) ∨
    (s.rxConfigured = true ∧ s.rxNumBytes.toNat - s.rxIndex.toNat < 3 * G ∧
      rxGet G s = s.raise .insufficientData 0) ∨
    (s.rxConfigured = true ∧ 3 * G ≤ s.rxNumBytes.toNat - s.rxIndex.toNat ∧
      ∃ off, rxGather s G s.rxIndex.toNat 0 = .mismatch off ∧ rxGet G s = s.raise .checksumMismatch off) ∨
    (s.rxConfigured = true ∧ 3 * G ≤ s.rxNumBytes.toNat - s.rxIndex.toNat ∧
      ∃ v, rxGather s G s.rxIndex.toNat 0 = .value v ∧
        rxGet G s = ((s.setResult v).setRxIndex (s.rxIndex + BitVec.ofNat 16 (3 * G))).ok) := by
  unfold rxGet
  by_cases hc : s.rxConfigured = false
  · exact .inl ⟨hc, by rw [if_pos hc]⟩
  · have hc' : s.rxConfigured = true := by simpa using hc
    rw [if_neg hc]
    by_cases hd : s.rxNumBytes.toNat - s.rxIndex.toNat < 3 * G
    · exact .inr (.inl ⟨hc', hd, by rw [if_pos hd]⟩)
    · rw [if_neg hd]
      cases hg : rxGather s G s.rxIndex.toNat 0 with
      | mismatch off => exact .inr (.inr (.inl ⟨hc', by omega, off, rfl, rfl⟩))
      | value v => exact .inr (.inr (.inr ⟨hc', by omega, v, rfl, rfl⟩))

/-- One group gathered. -/
theorem rxGather_one (s : State) (o : Nat) :
    rxGather s 1 o 0 =
      match rxGroup s o with
      | none => .mismatch o
      | some d => .value (d.setWidth 32) := by
  simp only [rxGather]
  cases rxGroup s o <;> simp

/-- Two groups gathered: the first is the high half, and a failing first group is reported before the second. -/
theorem rxGather_two (s : State) (o : Nat) :
    rxGather s 2 o 0 =
      match rxGroup s o with
      | none => .mismatch o
      | some d =>
        match rxGroup s (o + 3) with
        | none => .mismatch (o + 3)
        | some e => .value (d.setWidth 32 <<< 16 ||| e.setWidth 32) := by
  simp only [rxGather]
  cases rxGroup s o with
  | none => rfl
  | some d => cases rxGroup s (o + 3) <;> simp

end Sys2Proof.Machine
end

