-- ==== Sys2Proof/Laws/Tx.lean ====
section
/-! SUPPORT. What the TX operations can do (spec/41_tx_builder.md R100, R101), said once. -/

namespace Sys2Proof.Machine

/-! ## One group -/

/-- A group write touches TXBUF alone. -/
theorem txWriteGroup_frame (d : Half) (o : Nat) (s : State) :
    txWriteGroup d o s = { s with txbuf := (txWriteGroup d o s).txbuf } := rfl

/-- TXBUF after a group write. -/
theorem txWriteGroup_readTx (d : Half) (o j : Nat) (s : State) :
    (txWriteGroup d o s).readTx j =
      if j = o then highByte d
      else if j = o + 1 then lowByte d
      else if j = o + 2 then groupChecksum (highByte d) (lowByte d)
      else s.readTx j := by
  simp only [txWriteGroup, State.writeTx_readTx]
  by_cases h0 : j = o
  · subst h0; simp
  · by_cases h1 : j = o + 1
    · subst h1; simp
    · simp [h0, h1]

/-! ## Groups in a row -/

/-- Writing groups touches TXBUF alone. -/
theorem txWriteGroups_frame (ds : List Half) (o : Nat) (s : State) :
    txWriteGroups ds o s = { s with txbuf := (txWriteGroups ds o s).txbuf } := by
  induction ds generalizing o s with
  | nil => rfl
  | cons d ds ih => rw [txWriteGroups, ih]; rfl

/-- Writing groups leaves every byte outside them alone. -/
theorem txWriteGroups_outside (ds : List Half) (o j : Nat) (s : State) (h : j < o ∨ o + 3 * ds.length ≤ j) :
    (txWriteGroups ds o s).readTx j = s.readTx j := by
  induction ds generalizing o s with
  | nil => rfl
  | cons d ds ih =>
    simp only [List.length_cons] at h
    rw [txWriteGroups, ih _ _ (by omega), txWriteGroup_readTx]
    rw [if_neg (by omega), if_neg (by omega), if_neg (by omega)]

/-- Writing groups keeps the canonical form when they fit. -/
theorem txWriteGroups_wf {limit : Nat} (ds : List Half) (o : Nat) (s : State) (hs : Memory.wf limit s.txbuf = true)
    (h : o + 3 * ds.length ≤ limit) : Memory.wf limit (txWriteGroups ds o s).txbuf = true := by
  induction ds generalizing o s with
  | nil => exact hs
  | cons d ds ih =>
    simp only [List.length_cons] at h
    refine ih _ _ ?_ (by omega)
    exact Memory.wf_write _ (Memory.wf_write _ (Memory.wf_write _ hs (by omega)) (by omega)) (by omega)

theorem valueGroups_length (v : Word) (G : Nat) : (valueGroups v G).length = G := by simp [valueGroups]

/-! ## The command field -/

/-- tx_write_cmd (R100) writes TXBUF and moves TX_INDEX to TX_NCMD. -/
theorem txWriteCmd_frame (c : Half) (s : State) :
    txWriteCmd c s = { s with txbuf := (txWriteCmd c s).txbuf, txIndex := s.txNcmd.setWidth 16 } := by
  unfold txWriteCmd
  split <;> rfl

/-- TXBUF after tx_write_cmd. -/
theorem txWriteCmd_readTx (c : Half) (s : State) (j : Nat) :
    (txWriteCmd c s).readTx j =
      if s.txNcmd = 2 then (if j = 0 then highByte c else if j = 1 then lowByte c else s.readTx j)
      else (if j = 0 then lowByte c else s.readTx j) := by
  unfold txWriteCmd
  split
  · simp only [State.setTxIndex_readTx, State.writeTx_readTx]
    by_cases h0 : j = 0
    · subst h0; simp
    · simp [h0]
  · simp only [State.setTxIndex_readTx, State.writeTx_readTx]

/-- tx_write_cmd keeps the canonical form when the field fits. -/
theorem txWriteCmd_wf {limit : Nat} (c : Half) (s : State) (hs : Memory.wf limit s.txbuf = true)
    (h1 : 1 ≤ limit) (h2 : s.txNcmd = 2 → 2 ≤ limit) : Memory.wf limit (txWriteCmd c s).txbuf = true := by
  unfold txWriteCmd
  split
  · rename_i h
    have := h2 h
    exact Memory.wf_write _ (Memory.wf_write _ hs (by omega)) (by omega)
  · exact Memory.wf_write _ hs (by omega)

/-! ## tx_add -/

/-- Everything tx_add can do (R101): a refusal with nothing written, or the groups, the index and OK. -/
theorem txAdd_cases (v : Word) (G : Nat) (s : State) :
    ((s.txConfigured = false ∨ (0 < s.txNcmd.toNat ∧ s.txIndex.toNat < s.txNcmd.toNat)) ∧
      txAdd v G s = s.raise .invalidConfiguration 0) ∨
    (s.txConfigured = true ∧ ¬ (0 < s.txNcmd.toNat ∧ s.txIndex.toNat < s.txNcmd.toNat) ∧
      s.txCap.toNat - s.txIndex.toNat < 3 * G ∧ txAdd v G s = s.raise .bufferOverflow 0) ∨
    (s.txConfigured = true ∧ ¬ (0 < s.txNcmd.toNat ∧ s.txIndex.toNat < s.txNcmd.toNat) ∧
      3 * G ≤ s.txCap.toNat - s.txIndex.toNat ∧
      txAdd v G s = ((txWriteGroups (valueGroups v G) s.txIndex.toNat s).setTxIndex
        (s.txIndex + BitVec.ofNat 16 (3 * G))).ok) := by
  unfold txAdd
  by_cases hc : s.txConfigured = false
  · exact .inl ⟨.inl hc, by rw [if_pos hc]⟩
  · have hc' : s.txConfigured = true := by simpa using hc
    by_cases hn : 0 < s.txNcmd.toNat ∧ s.txIndex.toNat < s.txNcmd.toNat
    · exact .inl ⟨.inr hn, by rw [if_neg hc, if_pos hn]⟩
    · by_cases ho : s.txCap.toNat - s.txIndex.toNat < 3 * G
      · exact .inr (.inl ⟨hc', hn, ho, by rw [if_neg hc, if_neg hn, if_pos ho]⟩)
      · exact .inr (.inr ⟨hc', hn, by omega, by rw [if_neg hc, if_neg hn, if_neg ho]⟩)

end Sys2Proof.Machine
end

