-- ==== Sys2Proof/Tests/Slice0.lean ====
section
/-! SUPPORT. The model's own tests, one step each, with expected values from spec/95_test_vectors.md or the examples of
the rules named, and for every statement of Obligations.lean with hypotheses a state and operands that meet them. -/

namespace Sys2Proof.Tests

open Sys2Proof.Machine Sys2Proof.Claims

/-! ## Small states -/

/-- The state an outcome answers. -/
def nextOf : Host.Outcome State Fault Refusal → Option State
  | .next s => some s
  | .fault _ | .refused _ => none

/-- The fault an outcome ends in. -/
def faultOf : Host.Outcome State Fault Refusal → Option Fault
  | .fault f => some f
  | .next _ | .refused _ => none

/-- Run the command word `w` as the next step. -/
def run1 (w : Nat) (s : State) : Option State := nextOf (step (s.withFetchWord 32 w))

/-- What the command word `w` leaves, as `f` of the state. -/
def after {α : Type} (w : Nat) (s : State) (f : State → α) : Option α := (run1 w s).map f

/-- The state after reset with DATA_IN = `d` and RESULT = 7, so that an unwritten RESULT shows. -/
def data (d : Word) : State := (State.reset.setDataIn d).setResult 7

/-- A configured TX channel. -/
def tx (n : BitVec 2) (idx cap : Half) (d : Word) : State := ((data d).txConfigure n cap).setTxIndex idx

/-- A configured RX channel of capacity 6 that has received `bytes`. -/
def rx (bytes : List Byte) : State :=
  ((bytes.zipIdx.foldl (fun s x => s.writeRx x.2 x.1) (data 0)).rxConfigure 6).setRxLen (BitVec.ofNat 16 bytes.length)

/-- The event of one host access, and the state that waits for it. -/
def waits (a : Access) (s : State) : State := s.setPending [.access a]

/-- FRAMER_BASE of the reset instance. -/
def base : Nat := 0x40000000

/-! ## Well-formedness and decoding -/

theorem test_wf_crc_calc_four : (Instr.crcCalc 4).wf = true := by decide
theorem test_wf_refuses_crc_calc_five : (Instr.crcCalc 5).wf = false := by decide
theorem test_decode_refuses_crc_calc_five : decode 0x00050001 = .illegal .crcLength := by decide
theorem test_wf_ncmd_three : (Instr.txInit 3 0).wf = true := by decide

/-! Each constructor's word from the forms of R79, field by field {LEN, RSV, NCMD, OP}, and back. -/

theorem test_word_nop : decode 0x00000000 = .legal .nop ∧ encode .nop = 0x00000000 := by decide
theorem test_word_crc_calc : decode 0x00020001 = .legal (.crcCalc 2) ∧ encode (.crcCalc 2) = 0x00020001 := by decide
theorem test_word_crc_check : decode 0x00000002 = .legal .crcCheck ∧ encode .crcCheck = 0x00000002 := by decide
theorem test_word_tx_init : decode 0x00050210 = .legal (.txInit 2 5) ∧ encode (.txInit 2 5) = 0x00050210 := by decide
theorem test_word_tx_init_cmd : decode 0x00050211 = .legal (.txInitCmd 2 5) ∧ encode (.txInitCmd 2 5) = 0x00050211 := by
  decide
theorem test_word_tx_add_cmd : decode 0x00000012 = .legal .txAddCmd ∧ encode .txAddCmd = 0x00000012 := by decide
theorem test_word_tx_add_u16 : decode 0x00000013 = .legal .txAddU16 ∧ encode .txAddU16 = 0x00000013 := by decide
theorem test_word_tx_add_u32 : decode 0x00000014 = .legal .txAddU32 ∧ encode .txAddU32 = 0x00000014 := by decide
theorem test_word_tx_add_f32 : decode 0x00000015 = .legal .txAddF32 ∧ encode .txAddF32 = 0x00000015 := by decide
theorem test_word_rx_init : decode 0x00060020 = .legal (.rxInit 6) ∧ encode (.rxInit 6) = 0x00060020 := by decide
theorem test_word_rx_set_len : decode 0x00060021 = .legal (.rxSetLen 6) ∧ encode (.rxSetLen 6) = 0x00060021 := by decide
theorem test_word_rx_get_u16 : decode 0x00000022 = .legal .rxGetU16 ∧ encode .rxGetU16 = 0x00000022 := by decide
theorem test_word_rx_get_u32 : decode 0x00000023 = .legal .rxGetU32 ∧ encode .rxGetU32 = 0x00000023 := by decide
theorem test_word_rx_get_f32 : decode 0x00000024 = .legal .rxGetF32 ∧ encode .rxGetF32 = 0x00000024 := by decide

/-- 95 §2.3: the reserved opcodes beside the defined ones, and a nonzero reserved field of each kind. -/
theorem test_illegal_words :
    decode 0x0000000F = .illegal .reservedOpcode ∧ decode 0x00000016 = .illegal .reservedOpcode ∧
    decode 0x00000025 = .illegal .reservedOpcode ∧ decode 0x00000400 = .illegal .reservedBits ∧
    decode 0x00000113 = .illegal .unusedNcmd ∧ decode 0x00010022 = .illegal .unusedLen := by decide

theorem test_table_word : decodeTableWord 32 0x000B0211 = some (.txInitCmd 2 11) := by decide
theorem test_table_word_too_wide : decodeTableWord 40 0x0100000000 = none := by decide

/-! ## The checksum (95 §2.1) -/

theorem test_crc8_group : crc8 [0x12, 0x34] = 0x37 ∧ crc8 [0xBE, 0xEF] = 0x92 := by decide +kernel
theorem test_crc8_check_value : crc8 [0x31, 0x32, 0x33, 0x34, 0x35, 0x36, 0x37, 0x38, 0x39] = 0xF7 := by decide +kernel

/-! ## One step of each command (95 §2.2 to §2.6) -/

theorem test_nop : after 0x00000000 { data 0 with status := 0x00032303 } (fun s => (s.status, s.result)) =
    some (0, 7) := by decide

theorem test_crc_calc_two : after 0x00020001 (data 0xFFFF0102) (fun s => (s.status, s.result)) =
    some (0x00000100, 0x17) := by decide +kernel
theorem test_crc_calc_four : after 0x00040001 (data 0x12345678) (fun s => (s.status, s.result)) =
    some (0x00000100, 0xE0) := by decide +kernel

theorem test_crc_check : after 0x00000002 (data 0xFFBEEF92) (fun s => (s.status, s.result)) =
    some (0x00000200, 0x92) := by decide +kernel
theorem test_crc_check_mismatch : after 0x00000002 (data 0x00BEEF93) (fun s => (s.status, s.result)) =
    some (0x00000203, 7) := by decide +kernel

theorem test_tx_init : after 0x00100210 (data 0) (fun s => (s.status, readReg s .txCtrl, s.txCap)) =
    some (0x00001000, 0x21, 16) := by decide
theorem test_tx_init_too_small : after 0x00010210 (tx 0 3 5 0) (fun s => (s.status, readReg s .txCtrl, s.txIndex, s.txCap)) =
    some (0x00001004, 0, 0, 0) := by decide

theorem test_tx_init_cmd : after 0x00050211 (data 0x0000ABCD)
    (fun s => (s.status, readReg s .txCtrl, s.txIndex, s.txbuf)) =
    some (0x00001100, 0x22, 2, [(0, 0xAB), (1, 0xCD)]) := by decide
theorem test_tx_init_cmd_one_byte : after 0x00050111 (data 0x0000ABCD)
    (fun s => (s.status, readReg s .txCtrl, s.txIndex, s.txbuf)) = some (0x00001100, 0x12, 1, [(0, 0xCD)]) := by decide

theorem test_tx_add_cmd : after 0x00000012 (tx 2 0 5 0xABCD) (fun s => (s.status, s.txIndex, s.txbuf)) =
    some (0x00001200, 2, [(0, 0xAB), (1, 0xCD)]) := by decide
theorem test_tx_add_cmd_twice : after 0x00000012 (tx 2 2 5 0x1111) (fun s => (s.status, s.txIndex, s.txbuf)) =
    some (0x00001204, 2, []) := by decide

theorem test_tx_add_u16 : after 0x00000013 (tx 0 0 6 0xFFFF1234) (fun s => (s.status, s.txIndex, s.txbuf)) =
    some (0x00001300, 3, [(0, 0x12), (1, 0x34), (2, 0x37)]) := by decide +kernel
theorem test_tx_add_u16_before_command : after 0x00000013 (tx 2 0 5 0x0102) (fun s => (s.status, s.txIndex, s.txbuf)) =
    some (0x00001304, 0, []) := by decide

theorem test_tx_add_u32 : after 0x00000014 (tx 0 0 6 0x12345678) (fun s => (s.status, s.txIndex, s.txbuf)) =
    some (0x00001400, 6, [(0, 0x12), (1, 0x34), (2, 0x37), (3, 0x56), (4, 0x78), (5, 0x7D)]) := by decide +kernel
theorem test_tx_add_u32_no_room : after 0x00000014 (tx 0 0 5 0x12345678) (fun s => (s.status, s.txIndex, s.txbuf)) =
    some (0x00001401, 0, []) := by decide

theorem test_tx_add_f32 : after 0x00000015 (tx 0 0 6 0x7FC00000) (fun s => (s.status, s.txIndex, s.txbuf)) =
    some (0x00001500, 6, [(0, 0x7F), (1, 0xC0), (2, 0x64), (3, 0x00), (4, 0x00), (5, 0x81)]) := by decide +kernel

theorem test_rx_init : after 0x00060020 (data 0) (fun s => (s.status, readReg s .rxCtrl, s.rxCap)) =
    some (0x00002000, 3, 6) := by decide
theorem test_rx_init_too_big : after 0x00110020 (rx [1]) (fun s => (s.status, readReg s .rxCtrl, s.rxNumBytes, s.rxCap)) =
    some (0x00002004, 0, 0, 0) := by decide

theorem test_rx_set_len_too_big : after 0x00070021 (rx []) (fun s => (s.status, readReg s .rxCtrl, s.rxCap)) =
    some (0x00002104, 3, 6) := by decide
theorem test_rx_set_len_restarts : after 0x00060021 ((rx [0x12, 0x34, 0x37, 0x56, 0x78, 0x7D]).setRxIndex 6)
    (fun s => (s.status, readReg s .rxCtrl, s.rxIndex)) = some (0x00002100, 1, 0) := by decide

theorem test_rx_get_u16 : after 0x00000022 (rx [0x01, 0x02, 0x17]) (fun s => (s.status, s.result, s.rxIndex)) =
    some (0x00002200, 0x102, 3) := by decide +kernel
theorem test_rx_get_u16_too_few : after 0x00000022 (rx [0x01, 0x02]) (fun s => (s.status, s.result, s.rxIndex)) =
    some (0x00002202, 7, 0) := by decide

theorem test_rx_get_u32 : after 0x00000023 (rx [0x12, 0x34, 0x37, 0x56, 0x78, 0x7D])
    (fun s => (s.status, s.result, s.rxIndex)) = some (0x00002300, 0x12345678, 6) := by decide +kernel
theorem test_rx_get_u32_second_group : after 0x00000023 (rx [0x12, 0x34, 0x37, 0x56, 0x78, 0x7C])
    (fun s => (s.status, s.result, s.rxIndex)) = some (0x00032303, 7, 0) := by decide +kernel

theorem test_rx_get_f32 : after 0x00000024 (rx [0x7F, 0xC0, 0x64, 0x00, 0x00, 0x81])
    (fun s => (s.status, s.result, s.rxIndex)) = some (0x00002400, 0x7FC00000, 6) := by decide +kernel

/-- 95 §2.6: IllegalCommand outranks InvalidConfiguration. -/
theorem test_illegal_word : after 0x00000422 (data 0) (fun s => (s.status, s.cmd, s.result)) =
    some (0x00002205, 0x422, 7) := by decide

/-! ## The host port (95 §2.7) -/

theorem test_read_id : (nextOf (step (waits (.read 32 (base + 0x030)) State.reset))).map (·.answer) =
    some (some (.word 0x01000010)) := by decide
theorem test_write_rx_window : (nextOf (step (waits (.write 8 (base + 0x2000) 0x55) State.reset))).map (·.rxbuf) =
    some [(0, 0x55)] := by decide
theorem test_write_data_in : (nextOf (step (waits (.write 32 (base + 0x004) 0xCAFEBABE) State.reset))).map
    (fun s => (s.dataIn, s.cmd, s.status)) = some (0xCAFEBABE, 0, 0) := by decide
theorem test_bus_errors :
    faultOf (step (waits (.read 32 (base + 0x01C)) State.reset)) = some (.busError .unmapped 0) ∧
    faultOf (step (waits (.write 32 (base + 0x008) 1) State.reset)) = some (.busError .readOnlyRegister 0) ∧
    faultOf (step (waits (.read 16 (base + 0x000)) State.reset)) = some (.busError .badWidth 0) ∧
    faultOf (step (waits (.read 32 (base + 0x002)) State.reset)) = some (.busError .misaligned 0) ∧
    faultOf (step (waits (.write 8 (base + 0x1000) 0x55) State.reset)) = some (.busError .readOnlyWindow 0) ∧
    faultOf (step (waits (.read 32 (base + 0x2000)) State.reset)) = some (.busError .badWidth 0) ∧
    faultOf (step (waits (.read 8 (base + 0x1010)) State.reset)) = some (.busError .unmapped 0) := by decide
/-- R52: any other width, here 64 bits, of a register and of a window, and a width below 8 bits. -/
theorem test_other_widths :
    faultOf (step (waits (.read 64 (base + 0x000)) State.reset)) = some (.busError .badWidth 0) ∧
    faultOf (step (waits (.write 64 (base + 0x000) 0) State.reset)) = some (.busError .badWidth 0) ∧
    faultOf (step (waits (.write 64 (base + 0x2000) 0) State.reset)) = some (.busError .badWidth 0) ∧
    faultOf (step (waits (.read 1 (base + 0x030)) State.reset)) = some (.busError .badWidth 0) := by decide
theorem test_reset_memory_wf : Memory.wf 16 State.reset.txbuf = true ∧ Memory.wf 16 State.reset.rxbuf = true := by decide

/-! ## Witnesses: states and operands that meet the hypotheses of each statement

A statement with several clauses has a state for each of them, at a boundary of its range where it has one. -/

/-- The events `es` wait at `s`. -/
def queue (es : List HostEvent) (s : State) : State := s.setPending es

/-- A written-out TX frame of three bytes in a channel of six. -/
def txFrame3 : State := (((tx 0 3 6 0).writeTx 0 0x12).writeTx 1 0x34).writeTx 2 0x37

theorem witness_DecodeOfEncodeIsTheCommand :
    (Instr.crcCalc 0).wf = true ∧ (Instr.crcCalc 4).wf = true ∧ (Instr.txInit 3 0xFFFF).wf = true := by decide

theorem witness_EncodeOfDecodeIsTheWord :
    decode 0x00040001 = .legal (.crcCalc 4) ∧ decode 0xFFFF0310 = .legal (.txInit 3 0xFFFF) := by decide

theorem witness_StepRunsTheDecodedCommand :
    (queue [cmdWrite (data 0).cfg 0x00040001, .reset] (data 0)).pending =
      cmdWrite (queue [cmdWrite (data 0).cfg 0x00040001, .reset] (data 0)).cfg 0x00040001 :: [.reset] ∧
    decode 0x00040001 = .legal (.crcCalc 4) := by decide

theorem witness_IllegalWordOnlyReports :
    (queue [cmdWrite (data 0).cfg 0x00050001] (data 0)).pending =
      cmdWrite (queue [cmdWrite (data 0).cfg 0x00050001] (data 0)).cfg 0x00050001 :: [] ∧
    decode 0x00050001 = .illegal .crcLength := by decide

theorem witness_EveryCommandWriteCompletesAndReports :
    (queue [cmdWrite (data 0).cfg 0xFFFFFFFF] (data 0)).pending =
      cmdWrite (queue [cmdWrite (data 0).cfg 0xFFFFFFFF] (data 0)).cfg 0xFFFFFFFF :: [] := by decide

theorem witness_IdleFramerHoldsItsState : (tx 2 2 5 0).pending = [] := by decide

theorem witness_RegisterReadsAnswerTheirValue :
    (tx 2 2 5 0).cfg.wf ∧
    ∀ off ∈ [0x000, 0x004, 0x008, 0x00C, 0x010, 0x014, 0x018, 0x020, 0x024, 0x028, 0x02C, 0x030],
      (queue [.access (.read 32 (base + off))] (tx 2 2 5 0)).pending =
        .access (.read 32 ((queue [.access (.read 32 (base + off))] (tx 2 2 5 0)).cfg.base + off)) :: [] := by
  decide

theorem witness_StateFieldsFollowTheirRule :
    ((data 0).txConfigured = false ∧ (data 0).rxConfigured = false) ∧
    ((tx 0 5 5 0).txConfigured = true ∧ (tx 0 5 5 0).txIndex = (tx 0 5 5 0).txCap) ∧
    ((tx 0 0 5 0).txConfigured = true ∧ (tx 0 0 5 0).txIndex ≠ (tx 0 0 5 0).txCap ∧ (tx 0 0 5 0).txIndex = 0) ∧
    ((tx 0 3 5 0).txConfigured = true ∧ (tx 0 3 5 0).txIndex ≠ (tx 0 3 5 0).txCap ∧ (tx 0 3 5 0).txIndex ≠ 0) ∧
    ((rx []).rxConfigured = true ∧ (rx []).rxIndex = (rx []).rxNumBytes) ∧
    ((rx [1]).rxConfigured = true ∧ (rx [1]).rxIndex ≠ (rx [1]).rxNumBytes ∧ (rx [1]).rxIndex = 0) ∧
    (((rx [1, 2, 3, 4]).setRxIndex 3).rxConfigured = true ∧
      ((rx [1, 2, 3, 4]).setRxIndex 3).rxIndex ≠ ((rx [1, 2, 3, 4]).setRxIndex 3).rxNumBytes ∧
      ((rx [1, 2, 3, 4]).setRxIndex 3).rxIndex ≠ 0) := by decide

theorem witness_WindowAccessesReachTheBuffers :
    (data 0).cfg.wf ∧ (data 0).cfg.base = base ∧ 15 < (data 0).cfg.maxCap ∧
    (queue [.access (.read 8 (base + 0x1000 + 15))] (data 0)).pending = .access (.read 8 (base + 0x1000 + 15)) :: [] ∧
    (queue [.access (.read 8 (base + 0x2000 + 0))] (data 0)).pending = .access (.read 8 (base + 0x2000 + 0)) :: [] ∧
    (queue [.access (.write 8 (base + 0x2000 + 15) 0x55)] (data 0)).pending =
      .access (.write 8 (base + 0x2000 + 15) 0x55) :: [] := by decide

theorem witness_DataInWriteOnlyStores :
    (queue [dataInWrite (data 0).cfg 0xCAFEBABE] (data 0)).pending =
      dataInWrite (queue [dataInWrite (data 0).cfg 0xCAFEBABE] (data 0)).cfg 0xCAFEBABE :: [] := by decide

theorem witness_AllowedAccessesSucceed :
    (data 0).cfg.wf ∧ (∀ a, (waits a (data 0)).pending = .access a :: []) ∧
    (Access.read 32 (base + 0x030)).allowed (data 0).cfg ∧ (Access.read 8 (base + 0x100F)).allowed (data 0).cfg ∧
    (Access.write 8 (base + 0x2000) 0x55).allowed (data 0).cfg ∧
    (Access.write 32 (base + 0x004) 0).allowed (data 0).cfg :=
  ⟨by decide, fun _ => rfl, .inl ⟨rfl, 0x030, by decide, rfl⟩, .inr ⟨rfl, 15, by decide, .inl rfl⟩,
    .inr ⟨rfl, 0, by decide, rfl⟩, .inl ⟨rfl, .inr rfl⟩⟩

theorem witness_OtherAccessesGetABusError :
    (data 0).cfg.wf ∧ (∀ a, (waits a (data 0)).pending = .access a :: []) ∧
    ((data 0).cfg.base ≤ (Access.read 64 base).addr ∧
      (Access.read 64 base).addr < (data 0).cfg.base + 0x3000 ∧ ¬ (Access.read 64 base).allowed (data 0).cfg) ∧
    ((data 0).cfg.base ≤ (Access.write 8 (base + 0x2FFF) 0).addr ∧
      (Access.write 8 (base + 0x2FFF) 0).addr < (data 0).cfg.base + 0x3000 ∧
      ¬ (Access.write 8 (base + 0x2FFF) 0).allowed (data 0).cfg) := by
  refine ⟨by decide, fun _ => rfl, ⟨by decide, by decide, ?_⟩, ⟨by decide, by decide, ?_⟩⟩
  · rintro (⟨h, _⟩ | ⟨h, _⟩) <;> exact absurd h (by decide)
  · rintro (⟨h, _⟩ | ⟨_, i, hi, h⟩)
    · exact absurd h (by decide)
    · have h1 : i < 16 := hi
      have h2 : 0x40000000 + 0x2FFF = 0x40000000 + 0x2000 + i := h
      omega

theorem witness_OutsideAccessesAndSecondHostsAreRefused :
    (∀ a, (waits a (data 0)).pending = .access a :: []) ∧
    (Access.read 8 (base - 1)).addr < (data 0).cfg.base ∧
    (data 0).cfg.base + 0x3000 ≤ (Access.read 8 (base + 0x3000)).addr ∧
    (queue [.secondHost (.write 32 base 0)] (data 0)).pending = .secondHost (.write 32 base 0) :: [] :=
  ⟨fun _ => rfl, by decide, by decide, rfl⟩

theorem witness_OnlyCommandWritesHaveEffects_read :
    (queue [.access (.read 32 (base + 0x030)), .access (.read 32 (base + 0x030))] (data 0)).pending =
      .access (.read 32 (base + 0x030)) :: .access (.read 32 (base + 0x030)) :: [] ∧
    ∃ t u, step (queue [.access (.read 32 (base + 0x030)), .access (.read 32 (base + 0x030))] (data 0)) = .next t ∧
      step t = .next u :=
  ⟨rfl, _, _, rfl, rfl⟩

theorem witness_OnlyCommandWritesHaveEffects_write :
    (waits (.write 8 (base + 0x200F) 0x55) (data 0)).pending = .access (.write 8 (base + 0x200F) 0x55) :: [] ∧
    (∀ v, Access.write 8 (base + 0x200F) 0x55 ≠ .write 32 ((data 0).cfg.base + 0x000) v) ∧
    ∃ t, step (waits (.write 8 (base + 0x200F) 0x55) (data 0)) = .next t ∧ t.rxbuf ≠ (data 0).rxbuf :=
  ⟨rfl, fun _ h => absurd (Access.write.inj h).1 (by decide), _, rfl, by decide⟩

theorem witness_OnlyCommandWritesHaveEffects_data_in :
    (waits (.write 32 (base + 0x004) 1) (data 0)).pending = .access (.write 32 (base + 0x004) 1) :: [] ∧
    (∀ v, Access.write 32 (base + 0x004) 1 ≠ .write 32 ((data 0).cfg.base + 0x000) v) ∧
    ∃ t, step (waits (.write 32 (base + 0x004) 1) (data 0)) = .next t ∧ t.dataIn ≠ (data 0).dataIn :=
  ⟨rfl, fun _ h => absurd (Access.write.inj h).2.1 (by decide), _, rfl, by decide⟩

theorem witness_ResetInputClearsRegistersAndRedrawsBuffers :
    (queue [.reset, cmdWrite (data 0).cfg 0] (tx 2 2 5 0xFFFF)).pending = .reset :: [cmdWrite (data 0).cfg 0] := by decide

theorem witness_CrcDetectsEveryFlippedBit :
    0 < 24 ∧ flipBit 0 [0x01, 0x02, crc8 [0x01, 0x02]] = [0x00, 0x02, 0x17] ∧
    23 < 24 ∧ flipBit 23 [0x01, 0x02, crc8 [0x01, 0x02]] = [0x01, 0x02, 0x97] := by decide +kernel

/-! The encoding clause of the command rules: for each opcode a word its fields allow and one they do not. -/

/-- `w` and `v` have the opcode `op`, and `rest` holds of `w` alone. -/
def WordsOf (op : Byte) (rest : Word → Prop) (w v : Word) : Prop :=
  w.extractLsb' 0 8 = op ∧ rest w ∧ v.extractLsb' 0 8 = op ∧ ¬ rest v

theorem witness_DecodesAs_illegal_word :
    (queue [cmdWrite (data 0).cfg 0x00050001] (data 0)).pending =
      cmdWrite (queue [cmdWrite (data 0).cfg 0x00050001] (data 0)).cfg 0x00050001 :: [] := by decide

theorem witness_DecodesAs_checksum :
    WordsOf 0x01 (fun w => lenWord w ∧ (lenOf w).toNat ≤ 4) 0x00040001 0x00050001 ∧
    WordsOf 0x02 bareWord 0x00000002 0x00010002 := by
  unfold WordsOf lenWord bareWord lenOf; decide

theorem witness_DecodesAs_tx :
    WordsOf 0x10 ncmdLenWord 0xFFFF0310 0x00008010 ∧ WordsOf 0x11 ncmdLenWord 0xFFFF0311 0x00000411 ∧
    WordsOf 0x12 bareWord 0x00000012 0x00000112 ∧ WordsOf 0x13 bareWord 0x00000013 0x00000113 ∧
    WordsOf 0x14 bareWord 0x00000014 0x00010014 ∧ WordsOf 0x15 bareWord 0x00000015 0x80000015 := by
  unfold WordsOf ncmdLenWord bareWord; decide

theorem witness_DecodesAs_rx :
    WordsOf 0x20 lenWord 0xFFFF0020 0x00000120 ∧ WordsOf 0x21 lenWord 0xFFFF0021 0x00008021 ∧
    WordsOf 0x22 bareWord 0x00000022 0x00010022 ∧ WordsOf 0x23 bareWord 0x00000023 0x00000223 ∧
    WordsOf 0x24 bareWord 0x00000024 0x00000424 := by
  unfold WordsOf lenWord bareWord; decide

theorem witness_DecodesAs_nop : WordsOf 0x00 bareWord 0x00000000 0x00000100 := by
  unfold WordsOf bareWord; decide

/-! The clauses of the command rules. -/

/-- The pairs CRC_CALC's statement ranges over, at DATA_IN = 0x12345678. -/
def calcPairs : List (Half × List Byte) :=
  [(0, []),
   (1, [(data 0x12345678).dataIn.extractLsb' 0 8]),
   (2, [(data 0x12345678).dataIn.extractLsb' 8 8, (data 0x12345678).dataIn.extractLsb' 0 8]),
   (3, [(data 0x12345678).dataIn.extractLsb' 16 8, (data 0x12345678).dataIn.extractLsb' 8 8,
        (data 0x12345678).dataIn.extractLsb' 0 8]),
   (4, [(data 0x12345678).dataIn.extractLsb' 24 8, (data 0x12345678).dataIn.extractLsb' 16 8,
        (data 0x12345678).dataIn.extractLsb' 8 8, (data 0x12345678).dataIn.extractLsb' 0 8])]

theorem witness_CrcCalcRule :
    (0, []) ∈ calcPairs ∧ (1, [0x78]) ∈ calcPairs ∧ (2, [0x56, 0x78]) ∈ calcPairs ∧
    (3, [0x34, 0x56, 0x78]) ∈ calcPairs ∧ (4, [0x12, 0x34, 0x56, 0x78]) ∈ calcPairs := by decide

theorem witness_CrcCheckRule :
    crc8 [(data 0x00BEEF92).dataIn.extractLsb' 16 8, (data 0x00BEEF92).dataIn.extractLsb' 8 8] =
      (data 0x00BEEF92).dataIn.extractLsb' 0 8 ∧
    crc8 [(data 0x00BEEF93).dataIn.extractLsb' 16 8, (data 0x00BEEF93).dataIn.extractLsb' 8 8] ≠
      (data 0x00BEEF93).dataIn.extractLsb' 0 8 := by decide +kernel

theorem witness_TxInitRule :
    ((2 : BitVec 2) ≠ 3 ∧ (16 : Half).toNat ≤ (data 0).cfg.maxCap ∧ (2 : BitVec 2).toNat ≤ (16 : Half).toNat) ∧
    ((3 : BitVec 2) = 3 ∧ (data 0).cfg.maxCap < (17 : Half).toNat ∧ (1 : Half).toNat < (2 : BitVec 2).toNat) := by decide

theorem witness_TxInitCmdRule :
    ((1 : BitVec 2) = 1 ∧ (1 : Half).toNat ≤ (data 0).cfg.maxCap ∧ (1 : BitVec 2).toNat ≤ (1 : Half).toNat) ∧
    ((2 : BitVec 2) = 2 ∧ (16 : Half).toNat ≤ (data 0).cfg.maxCap ∧ (2 : BitVec 2).toNat ≤ (16 : Half).toNat) ∧
    ((0 : BitVec 2) = 0 ∧ (data 0).cfg.maxCap < (17 : Half).toNat ∧ (1 : Half).toNat < (2 : BitVec 2).toNat) := by decide

theorem witness_TxAddCmdRule :
    ((tx 1 0 1 0).txConfigured = true ∧ (tx 1 0 1 0).txNcmd = 1 ∧ (tx 1 0 1 0).txIndex = 0) ∧
    ((tx 2 0 2 0).txConfigured = true ∧ (tx 2 0 2 0).txNcmd = 2 ∧ (tx 2 0 2 0).txIndex = 0) ∧
    ((data 0).txConfigured = false ∧ (tx 0 0 5 0).txNcmd = 0 ∧ (tx 2 2 5 0).txIndex ≠ 0) := by decide

theorem witness_TxAddU16Rule :
    ((tx 2 2 5 0).txConfigured = true ∧ (tx 2 2 5 0).txNcmd.toNat ≤ (tx 2 2 5 0).txIndex.toNat ∧
      (tx 2 2 5 0).txIndex.toNat + 3 ≤ (tx 2 2 5 0).txCap.toNat) ∧
    ((data 0).txConfigured = false) ∧
    ((tx 2 0 5 0).txNcmd ≠ 0 ∧ (tx 2 0 5 0).txIndex.toNat < (tx 2 0 5 0).txNcmd.toNat) ∧
    ((tx 0 3 5 0).txConfigured = true ∧ (tx 0 3 5 0).txNcmd = 0 ∧
      (tx 0 3 5 0).txCap.toNat < (tx 0 3 5 0).txIndex.toNat + 3) := by decide

theorem witness_TxAddU32AndF32Rule :
    (Instr.txAddU32 = .txAddU32 ∧ Instr.txAddF32 = .txAddF32) ∧
    ((tx 1 1 7 0).txConfigured = true ∧ (tx 1 1 7 0).txNcmd.toNat ≤ (tx 1 1 7 0).txIndex.toNat ∧
      (tx 1 1 7 0).txIndex.toNat + 6 ≤ (tx 1 1 7 0).txCap.toNat) ∧
    ((data 0).txConfigured = false) ∧
    ((tx 2 0 8 0).txNcmd ≠ 0 ∧ (tx 2 0 8 0).txIndex.toNat < (tx 2 0 8 0).txNcmd.toNat) ∧
    ((tx 0 0 5 0).txConfigured = true ∧ (tx 0 0 5 0).txNcmd = 0 ∧
      (tx 0 0 5 0).txCap.toNat < (tx 0 0 5 0).txIndex.toNat + 6) := by decide

theorem witness_ConstructionPathsAgree :
    ((1 : BitVec 2) = 1 ∧ (1 : BitVec 2).toNat ≤ (1 : Half).toNat ∧ (1 : Half).toNat ≤ (tx 2 5 5 0xABCD).cfg.maxCap) ∧
    ((2 : BitVec 2) = 2 ∧ (2 : BitVec 2).toNat ≤ (16 : Half).toNat ∧ (16 : Half).toNat ≤ (data 0xABCD).cfg.maxCap) := by
  decide

theorem witness_AddsAppendTheirGroupsToTheFrame :
    (tx 2 2 14 0).txConfigured = true ∧ (tx 2 2 14 0).txNcmd.toNat ≤ (tx 2 2 14 0).txIndex.toNat ∧
    (tx 2 2 14 0).txIndex.toNat +
      (([.u16 0xBEEF, .u32 0x12345678, .u16 0] : List Item).flatMap Item.bytes).length ≤ (tx 2 2 14 0).txCap.toNat := by
  decide

theorem witness_RxInitRule :
    (16 : Half).toNat ≤ (data 0).cfg.maxCap ∧ (data 0).cfg.maxCap < (17 : Half).toNat := by decide

theorem witness_RxSetLenRule :
    ((rx []).rxConfigured = true ∧ (6 : Half).toNat ≤ (rx []).rxCap.toNat) ∧
    (data 0).rxConfigured = false ∧ (rx []).rxCap.toNat < (7 : Half).toNat := by decide

theorem witness_RxGetU16Rule :
    ((rx [0x01, 0x02, 0x17]).readRx 0 = 0x01 ∧ (rx [0x01, 0x02, 0x17]).readRx 1 = 0x02 ∧
      (rx [0x01, 0x02, 0x17]).readRx 2 = 0x17 ∧ (rx [0x01, 0x02, 0x17]).rxConfigured = true ∧
      (rx [0x01, 0x02, 0x17]).rxIndex.toNat + 3 ≤ (rx [0x01, 0x02, 0x17]).rxNumBytes.toNat ∧
      crc8 [0x01, 0x02] = 0x17) ∧
    ((rx [0x01, 0x02, 0x16]).readRx 2 = 0x16 ∧
      (rx [0x01, 0x02, 0x16]).rxIndex.toNat + 3 ≤ (rx [0x01, 0x02, 0x16]).rxNumBytes.toNat ∧
      crc8 [0x01, 0x02] ≠ 0x16) ∧
    ((rx [0x01, 0x02]).rxConfigured = true ∧
      (rx [0x01, 0x02]).rxNumBytes.toNat < (rx [0x01, 0x02]).rxIndex.toNat + 3) ∧
    (data 0).rxConfigured = false := by decide +kernel

/-- Two valid groups, and the two groups with the second or the first corrupted. -/
def good : State := rx [0x12, 0x34, 0x37, 0x56, 0x78, 0x7D]
def badSecond : State := rx [0x12, 0x34, 0x37, 0x56, 0x78, 0x7C]
def badFirst : State := rx [0x12, 0x34, 0x38, 0x56, 0x78, 0x7D]

theorem witness_RxGetU32AndF32Rule :
    (Instr.rxGetU32 = .rxGetU32 ∧ Instr.rxGetF32 = .rxGetF32) ∧
    (good.readRx 0 = 0x12 ∧ good.readRx 1 = 0x34 ∧ good.readRx 2 = 0x37 ∧ good.readRx 3 = 0x56 ∧
      good.readRx 4 = 0x78 ∧ good.readRx 5 = 0x7D ∧ good.rxConfigured = true ∧
      good.rxIndex.toNat + 6 ≤ good.rxNumBytes.toNat ∧ crc8 [0x12, 0x34] = 0x37 ∧ crc8 [0x56, 0x78] = 0x7D) ∧
    (badFirst.readRx 2 = 0x38 ∧ badFirst.rxIndex.toNat + 6 ≤ badFirst.rxNumBytes.toNat ∧ crc8 [0x12, 0x34] ≠ 0x38) ∧
    (badSecond.readRx 2 = 0x37 ∧ badSecond.readRx 5 = 0x7C ∧
      badSecond.rxIndex.toNat + 6 ≤ badSecond.rxNumBytes.toNat ∧ crc8 [0x56, 0x78] ≠ 0x7C) ∧
    ((rx [0, 0, 0x81, 0, 0]).rxConfigured = true ∧
      (rx [0, 0, 0x81, 0, 0]).rxNumBytes.toNat < (rx [0, 0, 0x81, 0, 0]).rxIndex.toNat + 6) ∧
    (data 0).rxConfigured = false := by decide +kernel

theorem witness_FailedGetChangesOnlyStatus :
    isRxGet .rxGetU32 = true ∧ ∃ t, exec .rxGetU32 badSecond = .next t ∧ t.status.extractLsb' 0 4 ≠ 0 :=
  ⟨rfl, rxGet 2 badSecond, rfl, by decide +kernel⟩

/-- A state whose TX_ADD_U16 0xBEEF succeeds. -/
def sender : State := tx 0 0 3 0xBEEF

theorem witness_RoundTripOfU16 :
    (∃ t, exec .txAddU16 sender = .next t ∧ t.status.extractLsb' 0 4 = 0 ∧
      [0xBE, 0xEF, 0x92] = [t.readTx sender.txIndex.toNat, t.readTx (sender.txIndex.toNat + 1),
        t.readTx (sender.txIndex.toNat + 2)]) ∧
    ((data 0).rxConfigure 3).cfg.wf ∧ ((data 0).rxConfigure 3).rxConfigured = true ∧
    3 ≤ ((data 0).rxConfigure 3).rxCap.toNat ∧
    ((data 0).rxConfigure 3).rxCap.toNat ≤ ((data 0).rxConfigure 3).cfg.maxCap ∧ 0 < 24 ∧ 23 < 24 :=
  ⟨⟨txAdd sender.dataIn 1 sender, rfl, by decide +kernel, by decide +kernel⟩, by decide, by decide, by decide,
    by decide, by decide, by decide⟩

/-- A state whose TX_ADD_U32 and TX_ADD_F32 0x12345678 succeed. -/
def sender32 : State := tx 0 0 6 0x12345678

theorem witness_RoundTripOfU32AndF32 :
    (∀ i, i = Instr.txAddU32 ∨ i = Instr.txAddF32 →
      ∃ t, exec i sender32 = .next t ∧ t.status.extractLsb' 0 4 = 0 ∧
        [0x12, 0x34, 0x37, 0x56, 0x78, 0x7D] =
          [t.readTx sender32.txIndex.toNat, t.readTx (sender32.txIndex.toNat + 1),
           t.readTx (sender32.txIndex.toNat + 2), t.readTx (sender32.txIndex.toNat + 3),
           t.readTx (sender32.txIndex.toNat + 4), t.readTx (sender32.txIndex.toNat + 5)]) ∧
    (rx []).cfg.wf ∧ (rx []).rxConfigured = true ∧ 6 ≤ (rx []).rxCap.toNat ∧
    (rx []).rxCap.toNat ≤ (rx []).cfg.maxCap := by
  refine ⟨?_, by decide, by decide, by decide, by decide⟩
  rintro i (rfl | rfl)
  · exact ⟨txAdd sender32.dataIn 2 sender32, rfl, by decide +kernel, by decide +kernel⟩
  · exact ⟨txAdd sender32.dataIn 2 sender32, rfl, by decide +kernel, by decide +kernel⟩

theorem witness_WideGetIsTwoNarrowGets :
    (Instr.rxGetU32 = .rxGetU32 ∧ Instr.rxGetF32 = .rxGetF32) ∧
    ∃ t u, exec .rxGetU16 good = .next t ∧ t.status.extractLsb' 0 4 = 0 ∧
      exec .rxGetU16 t = .next u ∧ u.status.extractLsb' 0 4 = 0 :=
  ⟨⟨rfl, rfl⟩, rxGet 1 good, rxGet 1 (rxGet 1 good), rfl, by decide +kernel, rfl, by decide +kernel⟩

/-! Control, errors and whole-machine rules. -/

theorem witness_NopRule : (data 0).cmd = 0 := by decide

theorem witness_FailedCommandChangesOnlyStatus :
    (∃ t, exec .rxGetU32 badSecond = .next t ∧ t.status.extractLsb' 0 4 ≠ 0 ∧ isTxInit .rxGetU32 = false ∧
      isRxInit .rxGetU32 = false ∧ t.status.extractLsb' 16 16 ≠ 0) ∧
    (∃ t, exec (.txInit 3 0) (tx 2 2 5 0) = .next t ∧ t.status.extractLsb' 0 4 ≠ 0 ∧ isTxInit (.txInit 3 0) = true) ∧
    (∃ t, exec (.rxInit 17) good = .next t ∧ t.status.extractLsb' 0 4 ≠ 0 ∧ isRxInit (.rxInit 17) = true) :=
  ⟨⟨rxGet 2 badSecond, rfl, by decide +kernel, rfl, rfl, by decide +kernel⟩, ⟨_, rfl, by decide, rfl⟩,
    ⟨_, rfl, by decide, rfl⟩⟩

theorem witness_CodesAreThoseOfTheTable :
    (∃ t, exec .nop (data 0) = .next t ∧ t.status.extractLsb' 0 4 = 0) ∧
    (∃ t, exec .txAddU16 (tx 0 3 5 0) = .next t ∧ t.status.extractLsb' 0 4 = 1) ∧
    (∃ t, exec .rxGetU16 (rx [1, 2]) = .next t ∧ t.status.extractLsb' 0 4 = 2) ∧
    (∃ t, exec .crcCheck (data 0) = .next t ∧ t.status.extractLsb' 0 4 = 3) ∧
    (∃ t, exec (.rxSetLen 7) (rx []) = .next t ∧ t.status.extractLsb' 0 4 = 4) ∧
    Instr.nop.wf = true ∧ Instr.txAddU16.wf = true ∧ Instr.rxGetU16.wf = true ∧ Instr.crcCheck.wf = true ∧
    (Instr.rxSetLen 7).wf = true :=
  ⟨⟨_, rfl, by decide⟩, ⟨txAdd (tx 0 3 5 0).dataIn 1 (tx 0 3 5 0), rfl, by decide⟩,
    ⟨rxGet 1 (rx [1, 2]), rfl, by decide⟩, ⟨(data 0).raise .checksumMismatch 0, by unfold exec execCrcCheck; exact if_pos (by decide +kernel), by decide⟩,
    ⟨_, rfl, by decide⟩, rfl, rfl, rfl, rfl, rfl⟩

theorem witness_WhichCommandWritesWhat :
    ∃ t, exec .nop (data 0) = .next t ∧ isTx .nop = false ∧ isTxInit .nop = false ∧ writesTxbuf .nop = false ∧
      isRxGet .nop = false ∧ setsRxLen .nop = false ∧ isRxInit .nop = false ∧ producesResult .nop = false :=
  ⟨_, rfl, rfl, rfl, rfl, rfl, rfl, rfl, rfl⟩

theorem witness_UnusedDataInBitsDoNotMatter :
    (Instr.crcCalc 2).wf = true ∧ (data 0xFFFF0102).txNcmd.toNat ≤ 2 ∧
    (0x00000102 : Word).toNat % 2 ^ dataInBits (data 0xFFFF0102) (.crcCalc 2) =
      (data 0xFFFF0102).dataIn.toNat % 2 ^ dataInBits (data 0xFFFF0102) (.crcCalc 2) := by decide

theorem txInv_tx3 : TxInv txFrame3 where
  index_le_cap := by decide
  cap_le_maxCap := by decide
  ncmd_le_two := by decide
  configured := fun _ => ⟨by decide, .inr (by decide)⟩
  unconfigured := fun h => nomatch h
  whole_groups := .inr ⟨1, by decide⟩

theorem rxInv_tx3 : RxInv txFrame3 where
  index_le_numBytes := by decide
  numBytes_le_cap := by decide
  cap_le_maxCap := by decide
  whole_groups := ⟨0, by decide⟩
  unconfigured := fun _ => ⟨by decide, by decide, by decide⟩

theorem witness_CommandsLeaveBytesAboveCapacity :
    TxInv txFrame3 ∧ (∃ t, exec .txAddU16 txFrame3 = .next t ∧ t.txCap.toNat ≤ 6) :=
  ⟨txInv_tx3, txAdd txFrame3.dataIn 1 txFrame3, rfl, by decide +kernel⟩

theorem witness_CommandsReadOnlyReceivedBytes :
    1 < (rx [0x01, 0x02]).rxNumBytes.toNat ∧
    ∀ a, a < (rx [0x01, 0x02]).rxNumBytes.toNat →
      State.readRx { rx [0x01, 0x02] with rxbuf := [(0, 0x01), (1, 0x02), (5, 0x77)] } a =
        (rx [0x01, 0x02]).readRx a := by
  refine ⟨by decide, fun a h => ?_⟩
  have h2 : a < 2 := h
  match a, h2 with
  | 0, _ => decide
  | 1, _ => decide

theorem witness_ConfiguredBitFollowsInit :
    (∃ t, exec (.txInit 2 5) (data 0) = .next t ∧ isTxInit (.txInit 2 5) = true ∧ isRxInit (.txInit 2 5) = false) ∧
    (∃ t, exec (.rxInit 17) good = .next t ∧ isRxInit (.rxInit 17) = true ∧ isTxInit (.rxInit 17) = false) :=
  ⟨⟨_, rfl, rfl, rfl⟩, ⟨_, rfl, rfl, rfl⟩⟩

theorem witness_UnconfiguredChannelsRefuse :
    ((data 0).txConfigured = false ∧ isTx .txAddU32 = true ∧ isTxInit .txAddU32 = false) ∧
    ((data 0).rxConfigured = false ∧ isRxGet .rxGetU16 = true ∧ setsRxLen (.rxSetLen 3) = true ∧
      isRxInit .rxGetU16 = false ∧ isRxInit (.rxSetLen 3) = false) ∧
    ((Instr.crcCalc 4).wf = true ∧ ∃ n, Instr.crcCalc 4 = .crcCalc n) :=
  ⟨by decide, by decide, rfl, 4, rfl⟩

/-! Invariants: a state in the middle of a frame, with the next command waiting. -/

/-- The frame of three bytes, and a CMD write of TX_ADD_U16 that waits. -/
def midFrame : State := txFrame3.withFetchWord 32 0x00000013

theorem txInv_midFrame : TxInv midFrame :=
  ⟨txInv_tx3.1, txInv_tx3.2, txInv_tx3.3, txInv_tx3.4, txInv_tx3.5, txInv_tx3.6⟩

theorem witness_StepKeepsChannelInvariants :
    TxInv midFrame ∧ RxInv midFrame ∧ ∃ t, step midFrame = .next t ∧ t.txIndex = 6 :=
  ⟨txInv_midFrame, ⟨rxInv_tx3.1, rxInv_tx3.2, rxInv_tx3.3, rxInv_tx3.4, rxInv_tx3.5⟩,
    txAdd 0 1 (((midFrame.setPending []).setAnswer .done).setCmd 0x00000013), rfl, by decide +kernel⟩

theorem witness_StepKeepsStatusForm :
    StatusInv midFrame ∧ ∃ t, step midFrame = .next t ∧ t.status = 0x00001300 :=
  ⟨⟨by decide, by decide, by decide, fun _ => by decide⟩,
    txAdd 0 1 (((midFrame.setPending []).setAnswer .done).setCmd 0x00000013), rfl, by decide +kernel⟩

theorem witness_StepKeepsBufferForm :
    TxInv midFrame ∧ BufferInv midFrame ∧ ∃ t, step midFrame = .next t ∧ t.txbuf ≠ midFrame.txbuf :=
  ⟨txInv_midFrame, ⟨by decide, by decide⟩,
    txAdd 0 1 (((midFrame.setPending []).setAnswer .done).setCmd 0x00000013), rfl, by decide +kernel⟩

theorem witness_StepKeepsParametersAndTakesOneEvent : ∃ t, step midFrame = .next t :=
  ⟨txAdd 0 1 (((midFrame.setPending []).setAnswer .done).setCmd 0x00000013), rfl⟩

theorem witness_ForbiddenWidthsAndAlignmentsGetABusError :
    (data 0).cfg.wf ∧ (∀ a, (waits a (data 0)).pending = .access a :: []) ∧
    ((Access.read 64 (base + 0x030)).addr = (data 0).cfg.base + 0x030 ∧ 0x030 ≤ 0x030 ∧
      (Access.read 64 (base + 0x030)).bits ≠ 32) ∧
    ((Access.write 32 (base + 0x001) 0).addr = (data 0).cfg.base + 0x001 ∧ 0x001 ≤ 0x030 ∧ 0x001 % 4 ≠ 0) ∧
    ((Access.read 16 (base + 0x100F)).addr = (data 0).cfg.base + 0x100F ∧
      (∃ i < (data 0).cfg.maxCap, 0x100F = 0x1000 + i ∨ 0x100F = 0x2000 + i) ∧
      (Access.read 16 (base + 0x100F)).bits ≠ 8) ∧
    ((Access.write 64 (base + 0x2000) 0).addr = (data 0).cfg.base + 0x2000 ∧
      (∃ i < (data 0).cfg.maxCap, 0x2000 = 0x1000 + i ∨ 0x2000 = 0x2000 + i) ∧
      (Access.write 64 (base + 0x2000) 0).bits ≠ 8) :=
  ⟨by decide, fun _ => rfl, by decide, by decide, ⟨rfl, ⟨15, by decide, .inl rfl⟩, by decide⟩,
    ⟨rfl, ⟨0, by decide, .inr rfl⟩, by decide⟩⟩

end Sys2Proof.Tests
end

section
/-! SUPPORT. What one step can do, said once: the host port's map read backwards, and the inversion of `portAccess`,
`command` and `step` (spec/20_memory.md R50 to R56, R63; spec/43_control.md R141). -/

namespace Sys2Proof.Machine

/-! ## The map, read backwards -/

/-- A register is found at its own offset alone (R50). -/
theorem region_eq_register {maxCap off : Nat} {r : Reg} (h : region maxCap off = .register r) : off = r.offset := by
  unfold region at h
  split at h
  · split at h
    next r' hfind =>
      cases h
      have hoff : (r.offset == off) = true := List.find?_some (p := fun r : Reg => r.offset == off) hfind
      exact (beq_iff_eq.mp hoff).symm
    next => split at h <;> cases h
  · split at h
    · split at h <;> cases h
    · split at h
      · split at h <;> cases h
      · cases h

/-- A byte of the RX window is found at its own offset alone, and lies below MAX_CAP (R50, R51). -/
theorem region_eq_rxWindow {maxCap off i : Nat} (h : region maxCap off = .rxWindow i) :
    off = 0x2000 + i ∧ i < maxCap := by
  unfold region at h
  split at h
  · split at h
    next => cases h
    next => split at h <;> cases h
  · split at h
    · split at h <;> cases h
    next hwindow =>
      split at h
      · split at h
        next hcap =>
          obtain rfl := Region.rxWindow.inj h
          exact ⟨(Nat.add_sub_cancel' (not_lt.mp hwindow)).symm, hcap⟩
        next => cases h
      · cases h

/-- An offset is that of an address from FRAMER_BASE on. -/
theorem addr_of_offsetOf {p : Params} {addr off : Nat} (h : offsetOf p addr = some off) : addr = p.base + off := by
  unfold offsetOf at h
  split at h
  · cases h
    omega
  · cases h

/-! ## Accesses that complete -/

/-- A read that completes only answers (R56). -/
theorem portRead_next {bits off : Nat} {s t : State} (h : portRead bits off s = .next t) :
    ∃ a, t = s.setAnswer a := by
  unfold portRead at h
  split at h
  next => cases h
  next => split at h <;> cases h; exact ⟨_, rfl⟩
  next => split at h <;> cases h
  next => split at h <;> cases h; exact ⟨_, rfl⟩
  next => split at h <;> cases h; exact ⟨_, rfl⟩

/-- A register write that completes is one to CMD or to DATA_IN (R23, R24, R54). -/
theorem writeReg_next {r : Reg} {v : Word} {s t : State} (h : writeReg r v s = .next t) :
    (r = .cmd ∧ command v (s.setAnswer .done) = .next t) ∨
    (r = .dataIn ∧ t = (s.setAnswer .done).setDataIn v) := by
  cases r with
  | cmd => exact .inl ⟨rfl, h⟩
  | dataIn => exact .inr ⟨rfl, (Host.Outcome.next.inj h).symm⟩
  | _ => cases h

/-- Everything a write that completes can do, with its offset and width: run a command, store in DATA_IN, or store one
byte of RXBUF (R51 to R56). -/
theorem portWrite_next {bits off : Nat} {v : BitVec bits} {s t : State} (h : portWrite bits off v s = .next t) :
    (bits = 32 ∧ off = 0x000 ∧ command (v.setWidth 32) (s.setAnswer .done) = .next t) ∨
    (bits = 32 ∧ off = 0x004 ∧ t = (s.setAnswer .done).setDataIn (v.setWidth 32)) ∨
    (bits = 8 ∧ ∃ i, i < s.cfg.maxCap ∧ off = 0x2000 + i ∧ t = (s.setAnswer .done).writeRx i (v.setWidth 8)) := by
  unfold portWrite at h
  split at h
  next => cases h
  next r hr =>
    have hoff := region_eq_register hr
    split at h
    next hbits =>
      obtain ⟨rfl, hc⟩ | ⟨rfl, ht⟩ := writeReg_next h
      · exact .inl ⟨hbits, hoff, hc⟩
      · exact .inr (.inl ⟨hbits, hoff, ht⟩)
    next => cases h
  next => split at h <;> cases h
  next => split at h <;> cases h
  next i hi =>
    obtain ⟨hoff, hlt⟩ := region_eq_rxWindow hi
    split at h
    next hbits => exact .inr (.inr ⟨hbits, i, hlt, hoff, (Host.Outcome.next.inj h).symm⟩)
    next => cases h

/-- Everything a host access that completes can do, by the access: a read answers, a write to CMD runs a command, a
write to DATA_IN stores its word, and a write into the RX window stores its byte (R51 to R56). -/
theorem portAccess_next {a : Access} {s t : State} (h : portAccess a s = .next t) :
    (∃ bits addr ans, a = .read bits addr ∧ t = s.setAnswer ans) ∨
    (∃ w, a = .write 32 (s.cfg.base + 0x000) w ∧ command w (s.setAnswer .done) = .next t) ∨
    (∃ v, a = .write 32 (s.cfg.base + 0x004) v ∧ t = (s.setAnswer .done).setDataIn v) ∨
    (∃ i b, i < s.cfg.maxCap ∧ a = .write 8 (s.cfg.base + 0x2000 + i) b ∧ t = (s.setAnswer .done).writeRx i b) := by
  unfold portAccess at h
  split at h
  next => cases h
  next off hoff =>
    have haddr := addr_of_offsetOf hoff
    cases a with
    | read bits addr =>
      obtain ⟨ans, rfl⟩ := portRead_next h
      exact .inl ⟨bits, addr, ans, rfl, rfl⟩
    | write bits addr v =>
      obtain rfl : addr = s.cfg.base + off := haddr
      obtain ⟨rfl, rfl, hc⟩ | ⟨rfl, rfl, rfl⟩ | ⟨rfl, i, hi, rfl, rfl⟩ := portWrite_next h
      · exact .inr (.inl ⟨v, rfl, by simpa using hc⟩)
      · exact .inr (.inr (.inl ⟨v, rfl, by simp⟩))
      · exact .inr (.inr (.inr ⟨i, v, hi, by rw [Nat.add_assoc], by simp⟩))

/-! ## Commands and steps -/

/-- A write to CMD runs the rule of the command the word encodes, or reports IllegalCommand (R76, R141). -/
theorem command_next {w : Word} {s t : State} (h : command w s = .next t) :
    (∃ i, decode w = .legal i ∧ exec i (s.setCmd w) = .next t) ∨
    (∃ e, decode w = .illegal e ∧ t = (s.setCmd w).raise .illegalCommand 0) := by
  unfold command at h
  split at h
  next i hi => exact .inl ⟨i, hi, h⟩
  next e he => exact .inr ⟨e, he, (Host.Outcome.next.inj h).symm⟩

/-- Everything a step can do: hold the state, take the reset input, or take an access that completes (R63). -/
theorem step_next {s t : State} (h : step s = .next t) :
    (s.pending = [] ∧ t = s) ∨
    (∃ es, s.pending = .reset :: es ∧ t = (s.setPending es).resetInput) ∨
    (∃ a es, s.pending = .access a :: es ∧ portAccess a (s.setPending es) = .next t) := by
  cases hp : s.pending with
  | nil => exact .inl ⟨rfl, Host.Outcome.next.inj (h.symm.trans (step_nil s hp))⟩
  | cons e es =>
    rw [step_cons s e es hp] at h
    cases e with
    | access a => exact .inr (.inr ⟨a, es, rfl, h⟩)
    | reset => exact .inr (.inl ⟨es, rfl, (Host.Outcome.next.inj h).symm⟩)
    | secondHost a => cases h

end Sys2Proof.Machine
end

section
/-! SUPPORT. What each command with a check of its own can do (spec/40_checksum.md R92, R93; spec/41_tx_builder.md R102
to R104; spec/42_rx_decoder.md R122, R123), said once. The adds and the gets are `txAdd` and `rxGet`, which `txAdd_cases`
and `rxGet_cases` describe. -/

namespace Sys2Proof.Machine

/-- Everything CRC_CALC can do (R92). -/
theorem exec_crcCalc_cases (len : Half) (s : State) :
    (4 < len.toNat ∧ exec (.crcCalc len) s = .next (s.raise .illegalCommand 0)) ∨
    (len.toNat ≤ 4 ∧ exec (.crcCalc len) s =
      .next (s.setResult ((crc8 (crcCalcBytes len.toNat s.dataIn)).setWidth 32)).ok) := by
  by_cases h : 4 < len.toNat
  · exact .inl ⟨h, if_pos h⟩
  · exact .inr ⟨not_lt.mp h, if_neg h⟩

/-- Everything CRC_CHECK can do (R93). -/
theorem exec_crcCheck_cases (s : State) :
    (groupChecksum (checkHigh s.dataIn) (checkLow s.dataIn) ≠ checkCrc s.dataIn ∧
      exec .crcCheck s = .next (s.raise .checksumMismatch 0)) ∨
    (groupChecksum (checkHigh s.dataIn) (checkLow s.dataIn) = checkCrc s.dataIn ∧
      exec .crcCheck s = .next (s.setResult ((checkCrc s.dataIn).setWidth 32)).ok) := by
  by_cases h : groupChecksum (checkHigh s.dataIn) (checkLow s.dataIn) = checkCrc s.dataIn
  · exact .inr ⟨h, if_neg (not_not.mpr h)⟩
  · exact .inl ⟨h, if_pos h⟩

/-- Everything TX_INIT can do (R102). -/
theorem exec_txInit_cases (n : BitVec 2) (cap : Half) (s : State) :
    ((n = 3 ∨ s.cfg.maxCap < cap.toNat ∨ cap.toNat < n.toNat) ∧
      exec (.txInit n cap) s = .next (s.txUnconfigure.raise .invalidConfiguration 0)) ∨
    (n ≠ 3 ∧ cap.toNat ≤ s.cfg.maxCap ∧ n.toNat ≤ cap.toNat ∧
      exec (.txInit n cap) s = .next (s.txConfigure n cap).ok) := by
  by_cases h : n = 3 ∨ s.cfg.maxCap < cap.toNat ∨ cap.toNat < n.toNat
  · exact .inl ⟨h, if_pos h⟩
  · have hrun : exec (.txInit n cap) s = .next (s.txConfigure n cap).ok := if_neg h
    simp only [not_or, not_lt] at h
    exact .inr ⟨h.1, h.2.1, h.2.2, hrun⟩

/-- Everything TX_INIT_CMD can do (R103). -/
theorem exec_txInitCmd_cases (n : BitVec 2) (cap : Half) (s : State) :
    ((n = 0 ∨ n = 3 ∨ s.cfg.maxCap < cap.toNat ∨ cap.toNat < n.toNat) ∧
      exec (.txInitCmd n cap) s = .next (s.txUnconfigure.raise .invalidConfiguration 0)) ∨
    (n ≠ 0 ∧ n ≠ 3 ∧ cap.toNat ≤ s.cfg.maxCap ∧ n.toNat ≤ cap.toNat ∧
      exec (.txInitCmd n cap) s = .next (txWriteCmd (commandCode s.dataIn) (s.txConfigure n cap)).ok) := by
  by_cases h : n = 0 ∨ n = 3 ∨ s.cfg.maxCap < cap.toNat ∨ cap.toNat < n.toNat
  · exact .inl ⟨h, if_pos h⟩
  · have hrun : exec (.txInitCmd n cap) s =
      .next (txWriteCmd (commandCode s.dataIn) (s.txConfigure n cap)).ok := if_neg h
    simp only [not_or, not_lt] at h
    exact .inr ⟨h.1, h.2.1, h.2.2.1, h.2.2.2, hrun⟩

/-- Everything TX_ADD_CMD can do (R104). -/
theorem exec_txAddCmd_cases (s : State) :
    ((s.txConfigured = false ∨ s.txNcmd = 0 ∨ s.txIndex ≠ 0) ∧
      exec .txAddCmd s = .next (s.raise .invalidConfiguration 0)) ∨
    (s.txConfigured = true ∧ s.txNcmd ≠ 0 ∧ s.txIndex = 0 ∧
      exec .txAddCmd s = .next (txWriteCmd (commandCode s.dataIn) s).ok) := by
  simp only [exec, execTxAddCmd]
  by_cases hc : s.txConfigured = false
  · exact .inl ⟨.inl hc, if_pos hc⟩
  · rw [if_neg hc]
    by_cases hn : s.txNcmd = 0
    · exact .inl ⟨.inr (.inl hn), if_pos hn⟩
    · rw [if_neg hn]
      by_cases hi : s.txIndex = 0
      · exact .inr ⟨by simpa using hc, hn, hi, if_neg (not_not.mpr hi)⟩
      · exact .inl ⟨.inr (.inr hi), if_pos hi⟩

/-- Everything RX_INIT can do (R122). -/
theorem exec_rxInit_cases (cap : Half) (s : State) :
    (s.cfg.maxCap < cap.toNat ∧ exec (.rxInit cap) s = .next (s.rxUnconfigure.raise .invalidConfiguration 0)) ∨
    (cap.toNat ≤ s.cfg.maxCap ∧ exec (.rxInit cap) s = .next (s.rxConfigure cap).ok) := by
  by_cases h : s.cfg.maxCap < cap.toNat
  · exact .inl ⟨h, if_pos h⟩
  · exact .inr ⟨not_lt.mp h, if_neg h⟩

/-- Everything RX_SET_LEN can do (R123). -/
theorem exec_rxSetLen_cases (n : Half) (s : State) :
    ((s.rxConfigured = false ∨ s.rxCap.toNat < n.toNat) ∧
      exec (.rxSetLen n) s = .next (s.raise .invalidConfiguration 0)) ∨
    (s.rxConfigured = true ∧ n.toNat ≤ s.rxCap.toNat ∧ exec (.rxSetLen n) s = .next (s.setRxLen n).ok) := by
  simp only [exec, execRxSetLen]
  by_cases hc : s.rxConfigured = false
  · exact .inl ⟨.inl hc, if_pos hc⟩
  · rw [if_neg hc]
    by_cases hn : s.rxCap.toNat < n.toNat
    · exact .inl ⟨.inr hn, if_pos hn⟩
    · exact .inr ⟨by simpa using hc, not_lt.mp hn, if_neg hn⟩

end Sys2Proof.Machine
end

section
/-! SUPPORT. The channel registers that R36 and R37 speak of: which operations leave them alone, and why each operation
that moves them keeps its channel's invariant. -/

namespace Sys2Proof.Machine

open Sys2Proof.Claims

/-! ## What each invariant reads -/

/-- What the TX invariants read: the TX channel's registers, and the parameters for MAX_CAP (R36). -/
def State.txRegs (s : State) : Bool × BitVec 2 × Half × Half × Params :=
  (s.txConfigured, s.txNcmd, s.txIndex, s.txCap, s.cfg)

/-- What the RX invariants read: the RX channel's registers, and the parameters for MAX_CAP (R37). -/
def State.rxRegs (s : State) : Bool × Half × Half × Half × Params :=
  (s.rxConfigured, s.rxIndex, s.rxNumBytes, s.rxCap, s.cfg)

theorem TxInv.of_txRegs_eq {s t : State} (hs : TxInv s) (h : t.txRegs = s.txRegs) : TxInv t := by
  simp only [State.txRegs, Prod.mk.injEq] at h
  obtain ⟨hconf, hncmd, hindex, hcap, hcfg⟩ := h
  obtain ⟨h1, h2, h3, h4, h5, h6⟩ := hs
  constructor <;> simpa only [hconf, hncmd, hindex, hcap, hcfg]

theorem RxInv.of_rxRegs_eq {s t : State} (hs : RxInv s) (h : t.rxRegs = s.rxRegs) : RxInv t := by
  simp only [State.rxRegs, Prod.mk.injEq] at h
  obtain ⟨hconf, hindex, hnum, hcap, hcfg⟩ := h
  obtain ⟨h1, h2, h3, h4, h5⟩ := hs
  constructor <;> simpa only [hconf, hindex, hnum, hcap, hcfg]

/-! ## Operations that leave a channel's registers alone -/

/-- A get moves no TX register. -/
theorem rxGet_txRegs (G : Nat) (s : State) : (rxGet G s).txRegs = s.txRegs := by
  obtain ⟨-, he⟩ | ⟨-, -, he⟩ | ⟨-, -, off, -, he⟩ | ⟨-, -, v, -, he⟩ := rxGet_cases G s <;> rw [he] <;> rfl

/-- The command field moves no RX register. -/
theorem txWriteCmd_rxRegs (c : Half) (s : State) : (txWriteCmd c s).rxRegs = s.rxRegs := by
  rw [txWriteCmd_frame]
  rfl

/-- An add moves no RX register. -/
theorem txAdd_rxRegs (v : Word) (G : Nat) (s : State) : (txAdd v G s).rxRegs = s.rxRegs := by
  obtain ⟨-, he⟩ | ⟨-, -, -, he⟩ | ⟨-, -, -, he⟩ := txAdd_cases v G s
  · rw [he]; rfl
  · rw [he]; rfl
  · rw [he, txWriteGroups_frame]; rfl

/-- Only the six TX commands move the TX registers. -/
theorem exec_txRegs_of_not_isTx {i : Instr} {s t : State} (hi : isTx i = false) (h : exec i s = .next t) :
    t.txRegs = s.txRegs := by
  cases i with
  | nop => cases h; rfl
  | crcCalc len =>
    obtain ⟨-, he⟩ | ⟨-, he⟩ := exec_crcCalc_cases len s <;> cases he.symm.trans h <;> rfl
  | crcCheck => obtain ⟨-, he⟩ | ⟨-, he⟩ := exec_crcCheck_cases s <;> cases he.symm.trans h <;> rfl
  | rxInit cap => obtain ⟨-, he⟩ | ⟨-, he⟩ := exec_rxInit_cases cap s <;> cases he.symm.trans h <;> rfl
  | rxSetLen n => obtain ⟨-, he⟩ | ⟨-, -, he⟩ := exec_rxSetLen_cases n s <;> cases he.symm.trans h <;> rfl
  | rxGetU16 => cases h; exact rxGet_txRegs 1 s
  | rxGetU32 | rxGetF32 => cases h; exact rxGet_txRegs 2 s
  | _ => cases hi

/-- Only RX_INIT, RX_SET_LEN and the three gets move the RX registers. -/
theorem exec_rxRegs_of_not_rx {i : Instr} {s t : State} (hget : isRxGet i = false) (hlen : setsRxLen i = false)
    (h : exec i s = .next t) : t.rxRegs = s.rxRegs := by
  cases i with
  | nop => cases h; rfl
  | crcCalc len =>
    obtain ⟨-, he⟩ | ⟨-, he⟩ := exec_crcCalc_cases len s <;> cases he.symm.trans h <;> rfl
  | crcCheck => obtain ⟨-, he⟩ | ⟨-, he⟩ := exec_crcCheck_cases s <;> cases he.symm.trans h <;> rfl
  | txInit n cap => obtain ⟨-, he⟩ | ⟨-, -, -, he⟩ := exec_txInit_cases n cap s <;> cases he.symm.trans h <;> rfl
  | txInitCmd n cap =>
    obtain ⟨-, he⟩ | ⟨-, -, -, -, he⟩ := exec_txInitCmd_cases n cap s
    · cases he.symm.trans h; rfl
    · cases he.symm.trans h; exact txWriteCmd_rxRegs _ (s.txConfigure n cap)
  | txAddCmd =>
    obtain ⟨-, he⟩ | ⟨-, -, -, he⟩ := exec_txAddCmd_cases s
    · cases he.symm.trans h; rfl
    · cases he.symm.trans h; exact txWriteCmd_rxRegs _ s
  | txAddU16 => cases h; exact txAdd_rxRegs s.dataIn 1 s
  | txAddU32 | txAddF32 => cases h; exact txAdd_rxRegs s.dataIn 2 s
  | rxInit cap | rxSetLen n => cases hlen
  | rxGetU16 | rxGetU32 | rxGetF32 => cases hget

/-- A channel register moves in a step only by the reset input or by a command's rule; every other step leaves the
registers of both channels alone. -/
theorem step_channel_cases {s t : State} (h : step s = .next t) :
    (t.txRegs = s.txRegs ∧ t.rxRegs = s.rxRegs) ∨
    (∃ k es, t = State.resetWith s.cfg k es) ∨
    (∃ i r, r.txRegs = s.txRegs ∧ r.rxRegs = s.rxRegs ∧ exec i r = .next t) := by
  obtain ⟨-, rfl⟩ | ⟨es, -, rfl⟩ | ⟨a, es, -, ha⟩ := step_next h
  · exact .inl ⟨rfl, rfl⟩
  · exact .inr (.inl ⟨s.epoch + 1, es, rfl⟩)
  · obtain ⟨-, -, ans, -, rfl⟩ | ⟨w, -, hc⟩ | ⟨v, -, rfl⟩ | ⟨i, b, -, -, rfl⟩ := portAccess_next ha
    · exact .inl ⟨rfl, rfl⟩
    · obtain ⟨i, -, hi⟩ | ⟨e, -, rfl⟩ := command_next hc
      · exact .inr (.inr ⟨i, ((s.setPending es).setAnswer .done).setCmd w, rfl, rfl, hi⟩)
      · exact .inl ⟨rfl, rfl⟩
    · exact .inl ⟨rfl, rfl⟩
    · exact .inl ⟨rfl, rfl⟩

/-- An index moved by whole groups that fit below `limit` does not wrap. -/
theorem toNat_add_groups {index limit : Half} {G : Nat} (hle : index.toNat ≤ limit.toNat)
    (hroom : 3 * G ≤ limit.toNat - index.toNat) :
    (index + BitVec.ofNat 16 (3 * G)).toNat = index.toNat + 3 * G := by
  have hlimit := limit.isLt
  rw [BitVec.toNat_add, BitVec.toNat_ofNat, Nat.mod_eq_of_lt (a := 3 * G) (by omega), Nat.mod_eq_of_lt (by omega)]

/-! ## The TX invariant, operation by operation (R36) -/

theorem txInv_resetWith (p : Params) (k : Nat) (es : List HostEvent) : TxInv (State.resetWith p k es) where
  index_le_cap := Nat.le_refl 0
  cap_le_maxCap := Nat.zero_le _
  ncmd_le_two := Nat.zero_le 2
  configured := fun h => nomatch h
  unconfigured := fun _ => ⟨rfl, rfl, rfl⟩
  whole_groups := .inl rfl

theorem txInv_txUnconfigure (s : State) : TxInv s.txUnconfigure :=
  (txInv_resetWith s.cfg 0 []).of_txRegs_eq rfl

theorem txInv_txConfigure {s : State} {n : BitVec 2} {cap : Half} (hn : n ≠ 3) (hmax : cap.toNat ≤ s.cfg.maxCap)
    (hfit : n.toNat ≤ cap.toNat) : TxInv (s.txConfigure n cap) where
  index_le_cap := Nat.zero_le _
  cap_le_maxCap := hmax
  ncmd_le_two := by
    have hne : n.toNat ≠ 3 := fun h => hn (BitVec.eq_of_toNat_eq h)
    have hlt := n.isLt
    simp only [State.txConfigure_txNcmd]
    omega
  configured := fun _ => ⟨hfit, .inl rfl⟩
  unconfigured := fun h => nomatch h
  whole_groups := .inl rfl

/-- Writing the command field of a configured channel moves its index to TX_NCMD, which fits (R100). -/
theorem TxInv.txWriteCmd {s : State} (hs : TxInv s) (hconf : s.txConfigured = true) (c : Half) :
    TxInv (txWriteCmd c s) := by
  have hindex : (s.txNcmd.setWidth 16).toNat = s.txNcmd.toNat := BitVec.toNat_setWidth_of_le (by decide)
  have hfit := (hs.configured hconf).1
  rw [txWriteCmd_frame]
  exact
    { index_le_cap := hindex ▸ hfit
      cap_le_maxCap := hs.cap_le_maxCap
      ncmd_le_two := hs.ncmd_le_two
      configured := fun _ => ⟨hfit, .inr hindex.ge⟩
      unconfigured := fun h => absurd (hconf.symm.trans h) nofun
      whole_groups := .inr ⟨0, hindex⟩ }

/-- Moving the index of a configured channel past `G` groups that fit, where the command field is already written or
there is none (R101). -/
theorem TxInv.setTxIndex_add {s : State} {G : Nat} (hs : TxInv s) (hconf : s.txConfigured = true)
    (hfield : ¬ (0 < s.txNcmd.toNat ∧ s.txIndex.toNat < s.txNcmd.toNat))
    (hroom : 3 * G ≤ s.txCap.toNat - s.txIndex.toNat) :
    TxInv (s.setTxIndex (s.txIndex + BitVec.ofNat 16 (3 * G))) := by
  have hle := hs.index_le_cap
  have hnew := toNat_add_groups hle hroom
  have hgroups : ∃ k, s.txIndex.toNat = s.txNcmd.toNat + 3 * k := by
    obtain hzero | hk := hs.whole_groups
    · have hindex : s.txIndex.toNat = 0 := by rw [hzero]; rfl
      exact ⟨0, by omega⟩
    · exact hk
  obtain ⟨k, hk⟩ := hgroups
  exact
    { index_le_cap := by simp only [State.setTxIndex_txIndex, State.setTxIndex_txCap, hnew]; omega
      cap_le_maxCap := hs.cap_le_maxCap
      ncmd_le_two := hs.ncmd_le_two
      configured := fun _ => ⟨(hs.configured hconf).1, .inr (by
        simp only [State.setTxIndex_txIndex, State.setTxIndex_txNcmd, hnew]; omega)⟩
      unconfigured := fun h => absurd (hconf.symm.trans h) nofun
      whole_groups := .inr ⟨k + G, by simp only [State.setTxIndex_txIndex, State.setTxIndex_txNcmd, hnew]; omega⟩ }

theorem TxInv.txAdd {s : State} (hs : TxInv s) (v : Word) (G : Nat) : TxInv (txAdd v G s) := by
  obtain ⟨-, he⟩ | ⟨-, -, -, he⟩ | ⟨hconf, hfield, hroom, he⟩ := txAdd_cases v G s
  · exact hs.of_txRegs_eq (by rw [he]; rfl)
  · exact hs.of_txRegs_eq (by rw [he]; rfl)
  · exact (hs.setTxIndex_add hconf hfield hroom).of_txRegs_eq (by rw [he, txWriteGroups_frame]; rfl)

/-- Every command keeps the TX invariants (R36). -/
theorem exec_keeps_txInv {i : Instr} {s t : State} (hs : TxInv s) (h : exec i s = .next t) : TxInv t := by
  cases i with
  | txInit n cap =>
    obtain ⟨-, he⟩ | ⟨hn, hmax, hfit, he⟩ := exec_txInit_cases n cap s
    · cases he.symm.trans h
      exact (txInv_txUnconfigure s).of_txRegs_eq rfl
    · cases he.symm.trans h
      exact (txInv_txConfigure hn hmax hfit).of_txRegs_eq rfl
  | txInitCmd n cap =>
    obtain ⟨-, he⟩ | ⟨-, hn, hmax, hfit, he⟩ := exec_txInitCmd_cases n cap s
    · cases he.symm.trans h
      exact (txInv_txUnconfigure s).of_txRegs_eq rfl
    · cases he.symm.trans h
      exact ((txInv_txConfigure hn hmax hfit).txWriteCmd rfl _).of_txRegs_eq rfl
  | txAddCmd =>
    obtain ⟨-, he⟩ | ⟨hconf, -, -, he⟩ := exec_txAddCmd_cases s
    · cases he.symm.trans h
      exact hs.of_txRegs_eq rfl
    · cases he.symm.trans h
      exact (hs.txWriteCmd hconf _).of_txRegs_eq rfl
  | txAddU16 => cases h; exact hs.txAdd s.dataIn 1
  | txAddU32 | txAddF32 => cases h; exact hs.txAdd s.dataIn 2
  | _ => exact hs.of_txRegs_eq (exec_txRegs_of_not_isTx rfl h)

/-! ## The RX invariant, operation by operation (R37) -/

theorem rxInv_resetWith (p : Params) (k : Nat) (es : List HostEvent) : RxInv (State.resetWith p k es) where
  index_le_numBytes := Nat.le_refl 0
  numBytes_le_cap := Nat.le_refl 0
  cap_le_maxCap := Nat.zero_le _
  whole_groups := ⟨0, rfl⟩
  unconfigured := fun _ => ⟨rfl, rfl, rfl⟩

theorem rxInv_rxUnconfigure (s : State) : RxInv s.rxUnconfigure :=
  (rxInv_resetWith s.cfg 0 []).of_rxRegs_eq rfl

theorem rxInv_rxConfigure {s : State} {cap : Half} (hmax : cap.toNat ≤ s.cfg.maxCap) : RxInv (s.rxConfigure cap) where
  index_le_numBytes := Nat.le_refl 0
  numBytes_le_cap := Nat.zero_le _
  cap_le_maxCap := hmax
  whole_groups := ⟨0, rfl⟩
  unconfigured := fun h => nomatch h

/-- A length that fits starts a configured channel over at index 0 (R123). -/
theorem RxInv.setRxLen {s : State} {n : Half} (hs : RxInv s) (hconf : s.rxConfigured = true)
    (hfit : n.toNat ≤ s.rxCap.toNat) : RxInv (s.setRxLen n) where
  index_le_numBytes := Nat.zero_le _
  numBytes_le_cap := hfit
  cap_le_maxCap := hs.cap_le_maxCap
  whole_groups := ⟨0, rfl⟩
  unconfigured := fun h => absurd (hconf.symm.trans h) nofun

/-- Moving the index of a configured channel past `G` groups that were received (R120). -/
theorem RxInv.setRxIndex_add {s : State} {G : Nat} (hs : RxInv s) (hconf : s.rxConfigured = true)
    (hroom : 3 * G ≤ s.rxNumBytes.toNat - s.rxIndex.toNat) :
    RxInv (s.setRxIndex (s.rxIndex + BitVec.ofNat 16 (3 * G))) := by
  have hle := hs.index_le_numBytes
  have hnew := toNat_add_groups hle hroom
  obtain ⟨k, hk⟩ := hs.whole_groups
  exact
    { index_le_numBytes := by simp only [State.setRxIndex_rxIndex, State.setRxIndex_rxNumBytes, hnew]; omega
      numBytes_le_cap := hs.numBytes_le_cap
      cap_le_maxCap := hs.cap_le_maxCap
      whole_groups := ⟨k + G, by simp only [State.setRxIndex_rxIndex, hnew]; omega⟩
      unconfigured := fun h => absurd (hconf.symm.trans h) nofun }

theorem RxInv.rxGet {s : State} (hs : RxInv s) (G : Nat) : RxInv (rxGet G s) := by
  obtain ⟨-, he⟩ | ⟨-, -, he⟩ | ⟨-, -, off, -, he⟩ | ⟨hconf, hroom, v, -, he⟩ := rxGet_cases G s
  · exact hs.of_rxRegs_eq (by rw [he]; rfl)
  · exact hs.of_rxRegs_eq (by rw [he]; rfl)
  · exact hs.of_rxRegs_eq (by rw [he]; rfl)
  · exact (hs.setRxIndex_add hconf hroom).of_rxRegs_eq (by rw [he]; rfl)

/-- Every command keeps the RX invariants (R37). -/
theorem exec_keeps_rxInv {i : Instr} {s t : State} (hs : RxInv s) (h : exec i s = .next t) : RxInv t := by
  cases i with
  | rxInit cap =>
    obtain ⟨-, he⟩ | ⟨hmax, he⟩ := exec_rxInit_cases cap s
    · cases he.symm.trans h
      exact (rxInv_rxUnconfigure s).of_rxRegs_eq rfl
    · cases he.symm.trans h
      exact (rxInv_rxConfigure hmax).of_rxRegs_eq rfl
  | rxSetLen n =>
    obtain ⟨-, he⟩ | ⟨hconf, hfit, he⟩ := exec_rxSetLen_cases n s
    · cases he.symm.trans h
      exact hs.of_rxRegs_eq rfl
    · cases he.symm.trans h
      exact (hs.setRxLen hconf hfit).of_rxRegs_eq rfl
  | rxGetU16 => cases h; exact hs.rxGet 1
  | rxGetU32 | rxGetF32 => cases h; exact hs.rxGet 2
  | _ => exact hs.of_rxRegs_eq (exec_rxRegs_of_not_rx rfl rfl h)

/-- Settles O48: a step leaves the channels' registers alone, resets them, or runs a command, and each command keeps
both invariants. -/
theorem stepKeepsChannelInvariants : Obligations.StepKeepsChannelInvariants := by
  refine ⟨fun p k es => ⟨txInv_resetWith p k es, rxInv_resetWith p k es⟩, fun s t htx hrx h => ?_⟩
  obtain ⟨heqTx, heqRx⟩ | ⟨k, es, rfl⟩ | ⟨i, r, heqTx, heqRx, hexec⟩ := step_channel_cases h
  · exact ⟨htx.of_txRegs_eq heqTx, hrx.of_rxRegs_eq heqRx⟩
  · exact ⟨txInv_resetWith s.cfg k es, rxInv_resetWith s.cfg k es⟩
  · exact ⟨exec_keeps_txInv (htx.of_txRegs_eq heqTx) hexec, exec_keeps_rxInv (hrx.of_rxRegs_eq heqRx) hexec⟩

end Sys2Proof.Machine
end

section
/-! SUPPORT. The STATE field of a channel (spec/10_state.md R38), and where TX_CTRL and RX_CTRL show it. -/

namespace Sys2Proof.Machine

theorem channelState_unconfigured (index limit : Half) : channelState false index limit = 0 := rfl

/-- EXHAUSTED comes first: an index at its limit is never FRESH, not even at 0. -/
theorem channelState_exhausted {index limit : Half} (h : index = limit) : channelState true index limit = 3 :=
  if_pos h

theorem channelState_fresh {index limit : Half} (hne : index ≠ limit) (h : index = 0) :
    channelState true index limit = 1 :=
  (if_neg hne).trans (if_pos h)

theorem channelState_active {index limit : Half} (hne : index ≠ limit) (h : index ≠ 0) :
    channelState true index limit = 2 :=
  (if_neg hne).trans (if_neg h)

/-- Bits 1:0 of TX_CTRL (R27): TX_NCMD above them does not reach them. -/
theorem readReg_txCtrl_state (s : State) : (readReg s .txCtrl).extractLsb' 0 2 = s.txState := by
  apply BitVec.eq_of_getLsbD_eq
  intro i hi
  simp [readReg, hi, show i < 4 by omega, show i < 32 by omega]

/-- Bits 1:0 of RX_CTRL (R30). -/
theorem readReg_rxCtrl_state (s : State) : (readReg s .rxCtrl).extractLsb' 0 2 = s.rxState := by
  apply BitVec.eq_of_getLsbD_eq
  intro i hi
  simp [readReg, hi, show i < 32 by omega]

/-- Settles O10: both fields show `channelState` of their channel, which follows R38 case by case. -/
theorem stateFieldsFollowTheirRule : Obligations.StateFieldsFollowTheirRule := by
  rintro s _ _ rfl rfl
  rw [readReg_txCtrl_state, readReg_rxCtrl_state, State.txState, State.rxState]
  refine ⟨fun hc => ?_, fun hc => ?_, fun hc => ?_, fun hc => ?_⟩ <;> rw [hc]
  · exact channelState_unconfigured s.txIndex s.txCap
  · exact channelState_unconfigured s.rxIndex s.rxNumBytes
  · exact ⟨channelState_exhausted, channelState_fresh, channelState_active⟩
  · exact ⟨channelState_exhausted, channelState_fresh, channelState_active⟩

end Sys2Proof.Machine
end

section
/-! SUPPORT. The encoding clause of the command rules (spec/30_encoding.md R70 to R76): what a run of zero bits says of
the fields of a word, when the words of one opcode are legal, and what a write of an illegal word does. -/

namespace Sys2Proof.Machine

open Sys2Proof.Claims

/-! ## The fields a statement's slices are made of -/

/-- A slice of a word is 0 when each of its two parts is. -/
theorem extractLsb'_add_eq_zero_iff (w : Word) (lo m n : Nat) :
    w.extractLsb' lo (m + n) = 0 ↔ w.extractLsb' lo m = 0 ∧ w.extractLsb' (lo + m) n = 0 := by
  simp only [BitVec.toNat_eq, BitVec.extractLsb'_toNat, Nat.shiftRight_add]
  rw [Nat.pow_add, Nat.mod_mul, ← Nat.shiftRight_eq_div_pow]
  simp

/-- NCMD and RSV fill the bits between OP and LEN (R70). -/
theorem lenWord_iff (w : Word) : lenWord w ↔ ncmdField w = 0 ∧ rsvField w = 0 :=
  extractLsb'_add_eq_zero_iff w 8 2 6

/-- NCMD, RSV and LEN fill the bits above OP (R70). -/
theorem bareWord_iff (w : Word) : bareWord w ↔ lenWord w ∧ lenField w = 0 :=
  extractLsb'_add_eq_zero_iff w 8 8 16

/-! ## The words of one opcode -/

/-- A CMD write of an illegal word reports IllegalCommand, and nothing else of FRAMER changes (R76, R153). -/
theorem step_cmdWrite_of_illegal {s : State} {w : Word} {es : List HostEvent} {e : DecodeError}
    (hpending : s.pending = cmdWrite s.cfg w :: es) (hw : decode w = .illegal e) :
    step s = .next { s with pending := es, answer := some .done, cmd := w,
                            status := statusWord 0 (w.extractLsb' 0 8) 5 } := by
  rw [step_commandEvent s w es hpending, command, hw]
  rfl

/-- The words of an opcode decode as the table row says: the row names `mk` of the word, and `rest` is what the decode
rule asks of the fields beside OP (R75, R76). -/
theorem decodesAs_of_row {op : Byte} {rest : Word → Prop} {mk : Word → Instr}
    (hrow : ∀ w, instrOf op (ncmdField w) (lenField w) = some (mk w))
    (hrest : ∀ w, rest w ↔ rsvField w = 0 ∧ (usesNcmd op = false → ncmdField w = 0) ∧
      (usesLen op = false → lenField w = 0) ∧ (op = 0x01 → (lenField w).toNat ≤ 4)) :
    DecodesAs op rest mk := by
  rintro w rfl
  have hlegal (i : Instr) : decode w = .legal i ↔ some (mk w) = some i ∧ rest w := by
    rw [decode_legal_iff, hrest, ← hrow]
    rfl
  refine ⟨fun hw => (hlegal _).mpr ⟨rfl, hw⟩, fun hw => ?_⟩
  obtain ⟨e, he⟩ := decode_illegal_of_not_legal w fun i hi => hw ((hlegal i).mp hi).2
  exact ⟨⟨e, he⟩, fun s es hpending => step_cmdWrite_of_illegal hpending he⟩

/-- The words of an opcode that uses neither NCMD nor LEN are legal when they are bare (R72, R73). -/
theorem decodesAs_bareWord {op : Byte} {i : Instr} (hrow : ∀ n len, instrOf op n len = some i)
    (hncmd : usesNcmd op = false) (hlen : usesLen op = false) : DecodesAs op bareWord fun _ => i := by
  have hop : op ≠ 0x01 := by
    rintro rfl
    cases hlen
  refine decodesAs_of_row (fun _ => hrow _ _) fun w => ?_
  rw [bareWord_iff, lenWord_iff]
  exact ⟨fun ⟨⟨hn, hrsv⟩, hl⟩ => ⟨hrsv, fun _ => hn, fun _ => hl, fun h => absurd h hop⟩,
    fun ⟨hrsv, hn, hl, _⟩ => ⟨⟨hn hncmd, hrsv⟩, hl hlen⟩⟩

end Sys2Proof.Machine
end

section
/-! SUPPORT. The checksum commands (spec/40_checksum.md R92, R93): their encodings, outcomes and frames. -/

namespace Sys2Proof.Machine

open Sys2Proof.Claims

/-! ## CRC_CALC -/

/-- CRC_CALC is legal with a count up to 4 (R73). -/
theorem decodesAs_crcCalc :
    DecodesAs 0x01 (fun w => lenWord w ∧ (lenOf w).toNat ≤ 4) (fun w => .crcCalc (lenOf w)) := by
  refine decodesAs_of_row (fun _ => rfl) fun w => ?_
  rw [lenWord_iff]
  exact ⟨fun ⟨⟨hncmd, hrsv⟩, hlen⟩ => ⟨hrsv, fun _ => hncmd, nofun, fun _ => hlen⟩,
    fun ⟨hrsv, hncmd, _, hlen⟩ => ⟨⟨hncmd rfl, hrsv⟩, hlen rfl⟩⟩

/-- CRC_CALC with a legal count writes RESULT and reports a success (R92). -/
theorem exec_crcCalc_of_le {n : Half} (s : State) (hn : n.toNat ≤ 4) :
    exec (.crcCalc n) s =
      .next { s with result := (crc8 (crcCalcBytes n.toNat s.dataIn)).setWidth 32, status := report s 0 0 } := by
  obtain ⟨hlt, -⟩ | ⟨-, he⟩ := exec_crcCalc_cases n s
  · exact absurd hn (not_le.mpr hlt)
  · exact he

/-- Settles O21: the encoding follows its table row, and each count takes its bytes of DATA_IN, most significant byte
first. -/
theorem crcCalcRule : Obligations.CrcCalcRule := by
  refine ⟨decodesAs_crcCalc, fun s n bytes hmem => ?_⟩
  have hbytes : n.toNat ≤ 4 ∧ crcCalcBytes n.toNat s.dataIn = bytes := by
    simp only [List.mem_cons, Prod.mk.injEq, List.not_mem_nil, or_false] at hmem
    obtain ⟨rfl, rfl⟩ | ⟨rfl, rfl⟩ | ⟨rfl, rfl⟩ | ⟨rfl, rfl⟩ | ⟨rfl, rfl⟩ := hmem <;> exact ⟨by decide, rfl⟩
  obtain ⟨hn, rfl⟩ := hbytes
  exact exec_crcCalc_of_le s hn

/-! ## CRC_CHECK -/

/-- Settles O22: the encoding takes no field, and the two outcomes are those of the comparison of the checksums. -/
theorem crcCheckRule : Obligations.CrcCheckRule := by
  refine ⟨decodesAs_bareWord (fun _ _ => rfl) rfl rfl, fun s => ?_⟩
  obtain ⟨hne, he⟩ | ⟨heq, he⟩ := exec_crcCheck_cases s
  · exact ⟨fun h => absurd h hne, fun _ => he⟩
  · exact ⟨fun _ => he, fun h => absurd heq h⟩

end Sys2Proof.Machine
end

section
/-! SUPPORT. The commands that construct the TX channel (spec/41_tx_builder.md R102, R103) and TX_ADD_CMD (R104): their
encodings, outcomes and frames. -/

namespace Sys2Proof.Machine

open Sys2Proof.Claims

/-- The words of an opcode that uses both NCMD and LEN are legal when RSV is 0 (R72, R73). -/
theorem decodesAs_ncmdLenWord {op : Byte} {mk : BitVec 2 → Half → Instr}
    (hrow : ∀ n len, instrOf op n len = some (mk n len)) (hncmd : usesNcmd op = true) (hlen : usesLen op = true)
    (hop : op ≠ 0x01) : DecodesAs op ncmdLenWord fun w => mk (ncmdOf w) (lenOf w) :=
  decodesAs_of_row (fun _ => hrow _ _) fun _ =>
    ⟨fun hrsv => ⟨hrsv, fun h => absurd (hncmd.symm.trans h) nofun, fun h => absurd (hlen.symm.trans h) nofun,
      fun h => absurd h hop⟩, And.left⟩

/-! ## TX_INIT -/

/-- TX_INIT with a channel that fits configures it (R102). -/
theorem exec_txInit_of_fits {s : State} {n : BitVec 2} {cap : Half} (hn : n ≠ 3) (hmax : cap.toNat ≤ s.cfg.maxCap)
    (hfit : n.toNat ≤ cap.toNat) : exec (.txInit n cap) s = .next (s.txConfigure n cap).ok := by
  obtain ⟨hrefused, -⟩ | ⟨-, -, -, he⟩ := exec_txInit_cases n cap s
  · exact absurd hrefused (by simp only [not_or, not_lt]; exact ⟨hn, hmax, hfit⟩)
  · exact he

/-- Settles O23: TX_INIT configures a channel that fits, and refuses every other one after unconfiguring. -/
theorem txInitRule : Obligations.TxInitRule := by
  refine ⟨decodesAs_ncmdLenWord (fun _ _ => rfl) rfl rfl nofun,
    fun s n cap => ⟨exec_txInit_of_fits, fun hrefused => ?_⟩⟩
  obtain ⟨-, he⟩ | ⟨hn, hmax, hfit, -⟩ := exec_txInit_cases n cap s
  · exact he
  · exact absurd hrefused (by simp only [not_or, not_lt]; exact ⟨hn, hmax, hfit⟩)

/-! ## The command field -/

/-- A command field of two bytes is the code, high byte first (R59, R100). -/
theorem txWriteCmd_readTx_two {s : State} (w : Word) (hn : s.txNcmd = 2) :
    (txWriteCmd (commandCode w) s).readTx 0 = w.extractLsb' 8 8 ∧
    (txWriteCmd (commandCode w) s).readTx 1 = w.extractLsb' 0 8 := by
  simp [txWriteCmd_readTx, hn, highByte_commandCode, lowByte_commandCode]

/-- A command field of one byte is the low byte of the code (R59, R100). -/
theorem txWriteCmd_readTx_one {s : State} (w : Word) (hn : s.txNcmd = 1) :
    (txWriteCmd (commandCode w) s).readTx 0 = w.extractLsb' 0 8 := by
  simp [txWriteCmd_readTx, hn, lowByte_commandCode]

/-- No byte from TX_NCMD on is part of the command field. -/
theorem txWriteCmd_readTx_of_ge {s : State} {a : Nat} (c : Half) (hn : s.txNcmd ≠ 0) (ha : s.txNcmd.toNat ≤ a) :
    (txWriteCmd c s).readTx a = s.readTx a := by
  have hpos : s.txNcmd.toNat ≠ 0 := fun h => hn (BitVec.eq_of_toNat_eq h)
  rw [txWriteCmd_readTx]
  split
  next htwo =>
    have hval : s.txNcmd.toNat = 2 := by rw [htwo]; rfl
    rw [if_neg (by omega), if_neg (by omega)]
  next => rw [if_neg (by omega)]

/-- A success that writes the command field leaves all but TXBUF, TX_INDEX and STATUS alone (R100, R152). -/
theorem txWriteCmd_ok_frame (c : Half) (s : State) :
    (txWriteCmd c s).ok =
      { s with txbuf := (txWriteCmd c s).txbuf, txIndex := BitVec.ofNat 16 s.txNcmd.toNat, status := report s 0 0 } := by
  rw [BitVec.ofNat_toNat, txWriteCmd_frame]
  rfl

/-- The lengths a command field can have are not the ones the construction refuses. -/
theorem ncmd_ne_of_one_or_two {n : BitVec 2} (hn : n = 1 ∨ n = 2) : n ≠ 0 ∧ n ≠ 3 := by
  obtain rfl | rfl := hn <;> decide

/-! ## TX_INIT_CMD -/

/-- TX_INIT_CMD with a channel that fits configures it and writes the command field (R103). -/
theorem exec_txInitCmd_of_fits {s : State} {n : BitVec 2} {cap : Half} (hn : n = 1 ∨ n = 2)
    (hmax : cap.toNat ≤ s.cfg.maxCap) (hfit : n.toNat ≤ cap.toNat) :
    exec (.txInitCmd n cap) s = .next (txWriteCmd (commandCode s.dataIn) (s.txConfigure n cap)).ok := by
  obtain ⟨hrefused, -⟩ | ⟨-, -, -, -, he⟩ := exec_txInitCmd_cases n cap s
  · obtain ⟨hzero, hthree⟩ := ncmd_ne_of_one_or_two hn
    exact absurd hrefused (by simp only [not_or, not_lt]; exact ⟨hzero, hthree, hmax, hfit⟩)
  · exact he

/-- Settles O24: TX_INIT_CMD writes the command field of the channel it configures, or refuses after unconfiguring. -/
theorem txInitCmdRule : Obligations.TxInitCmdRule := by
  refine ⟨decodesAs_ncmdLenWord (fun _ _ => rfl) rfl rfl nofun,
    fun s n cap => ⟨fun hn hmax hfit => ?_, fun hrefused => ?_⟩⟩
  · exact ⟨_, exec_txInitCmd_of_fits hn hmax hfit, txWriteCmd_readTx_two (s := s.txConfigure n cap) s.dataIn,
      txWriteCmd_readTx_one (s := s.txConfigure n cap) s.dataIn,
      fun a => txWriteCmd_readTx_of_ge (s := s.txConfigure n cap) _ (ncmd_ne_of_one_or_two hn).1,
      txWriteCmd_ok_frame _ (s.txConfigure n cap)⟩
  · obtain ⟨-, he⟩ | ⟨hzero, hthree, hmax, hfit, -⟩ := exec_txInitCmd_cases n cap s
    · exact he
    · exact absurd hrefused (by simp only [not_or, not_lt]; exact ⟨hzero, hthree, hmax, hfit⟩)

/-! ## TX_ADD_CMD -/

/-- TX_ADD_CMD writes the command field of a channel that has one and is still at index 0 (R104). -/
theorem exec_txAddCmd_of_ready {s : State} (hconf : s.txConfigured = true) (hn : s.txNcmd ≠ 0) (hindex : s.txIndex = 0) :
    exec .txAddCmd s = .next (txWriteCmd (commandCode s.dataIn) s).ok := by
  obtain ⟨hrefused, -⟩ | ⟨-, -, -, he⟩ := exec_txAddCmd_cases s
  · exact absurd hrefused (not_or.mpr ⟨by simp [hconf], not_or.mpr ⟨hn, not_not.mpr hindex⟩⟩)
  · exact he

/-- Settles O25: TX_ADD_CMD writes the command field where it is still due, and each refusal changes only STATUS. -/
theorem txAddCmdRule : Obligations.TxAddCmdRule := by
  refine ⟨decodesAs_bareWord (fun _ _ => rfl) rfl rfl, fun s => ⟨fun hconf hncmd hindex => ?_, fun hrefused => ?_⟩⟩
  · have hn := (ncmd_ne_of_one_or_two hncmd).1
    exact ⟨_, exec_txAddCmd_of_ready hconf hn hindex, txWriteCmd_readTx_two s.dataIn, txWriteCmd_readTx_one s.dataIn,
      fun _ => txWriteCmd_readTx_of_ge _ hn, txWriteCmd_ok_frame _ s⟩
  · obtain ⟨-, he⟩ | ⟨hconf, hn, hindex, -⟩ := exec_txAddCmd_cases s
    · exact he
    · exact absurd hrefused (not_or.mpr ⟨by simp [hconf], not_or.mpr ⟨hn, not_not.mpr hindex⟩⟩)

end Sys2Proof.Machine
end

section
/-! SUPPORT. The data adds (spec/41_tx_builder.md R105 to R107): the group `txAdd` leaves at an offset, its outcomes one by
one, and the encodings and frames of the three commands. -/

namespace Sys2Proof.Machine

open Sys2Proof.Claims

/-! ## The bytes of a group -/

/-- TXBUF holds the group of value `d` at offset `o` (R57, R91). -/
def State.HoldsGroup (s : State) (o : Nat) (d : Half) : Prop :=
  s.readTx o = highByte d ∧ s.readTx (o + 1) = lowByte d ∧ s.readTx (o + 2) = groupChecksum (highByte d) (lowByte d)

/-- A group write leaves its group in TXBUF. -/
theorem txWriteGroup_holdsGroup (d : Half) (o : Nat) (s : State) : (txWriteGroup d o s).HoldsGroup o d := by
  simp [State.HoldsGroup, txWriteGroup_readTx]

/-- Of groups in a row, the later ones leave the first one in TXBUF. -/
theorem txWriteGroups_holdsGroup_head (d : Half) (ds : List Half) (o : Nat) (s : State) :
    (txWriteGroups (d :: ds) o s).HoldsGroup o d := by
  have hkept (j : Nat) (hj : j < o + 3) : (txWriteGroups (d :: ds) o s).readTx j = (txWriteGroup d o s).readTx j :=
    txWriteGroups_outside ds (o + 3) j _ (.inl hj)
  obtain ⟨hhigh, hlow, hcrc⟩ := txWriteGroup_holdsGroup d o s
  exact ⟨(hkept o (by omega)).trans hhigh, (hkept _ (by omega)).trans hlow, (hkept _ (by omega)).trans hcrc⟩

/-- The bytes of a group whose value is a slice of DATA_IN are slices of DATA_IN. -/
theorem State.HoldsGroup.slice {s : State} {o lo : Nat} {w : Word} (h : s.HoldsGroup o (w.extractLsb' lo 16)) :
    s.readTx o = w.extractLsb' (lo + 8) 8 ∧ s.readTx (o + 1) = w.extractLsb' lo 8 ∧
    s.readTx (o + 2) = crc8 [w.extractLsb' (lo + 8) 8, w.extractLsb' lo 8] := by
  simpa only [State.HoldsGroup, groupChecksum, highByte_slice, lowByte_slice] using h

/-! ## The outcomes of tx_add -/

/-- A command field is written or there is none exactly when tx_add's second check passes (R101). -/
theorem not_fieldMissing_iff (s : State) :
    ¬ (0 < s.txNcmd.toNat ∧ s.txIndex.toNat < s.txNcmd.toNat) ↔
      s.txNcmd = 0 ∨ s.txNcmd.toNat ≤ s.txIndex.toNat := by
  bv_omega

section

variable {s : State} (v : Word) (G : Nat) (hconf : s.txConfigured = true)
  (hfield : s.txNcmd = 0 ∨ s.txNcmd.toNat ≤ s.txIndex.toNat) (hroom : s.txIndex.toNat + 3 * G ≤ s.txCap.toNat)

include hconf hfield hroom

/-- An add to a configured channel whose command field is written writes the groups where they fit (R101). -/
theorem txAdd_of_fits :
    txAdd v G s = ((txWriteGroups (valueGroups v G) s.txIndex.toNat s).setTxIndex
      (s.txIndex + BitVec.ofNat 16 (3 * G))).ok := by
  obtain ⟨hc | hn, -⟩ | ⟨-, -, hover, -⟩ | ⟨-, -, -, he⟩ := txAdd_cases v G s
  · exact absurd (hconf.symm.trans hc) nofun
  · exact absurd hn ((not_fieldMissing_iff s).mpr hfield)
  · omega
  · exact he

/-- In TXBUF such an add leaves what writing its groups leaves there. -/
theorem txAdd_readTx_of_fits (j : Nat) :
    (txAdd v G s).readTx j = (txWriteGroups (valueGroups v G) s.txIndex.toNat s).readTx j := by
  rw [txAdd_of_fits v G hconf hfield hroom, State.ok_readTx, State.setTxIndex_readTx]

theorem txAdd_holdsGroup_iff_of_fits (o : Nat) (d : Half) :
    (txAdd v G s).HoldsGroup o d ↔ (txWriteGroups (valueGroups v G) s.txIndex.toNat s).HoldsGroup o d := by
  simp only [State.HoldsGroup, txAdd_readTx_of_fits v G hconf hfield hroom]

/-- Such an add leaves every byte outside its groups alone. -/
theorem txAdd_readTx_outside_of_fits {a : Nat} (ha : a < s.txIndex.toNat ∨ s.txIndex.toNat + 3 * G ≤ a) :
    (txAdd v G s).readTx a = s.readTx a := by
  rw [txAdd_readTx_of_fits v G hconf hfield hroom]
  exact txWriteGroups_outside _ _ _ s (by rwa [valueGroups_length])

/-- Such an add leaves all but TXBUF, TX_INDEX and STATUS alone (R101, R152). -/
theorem txAdd_frame_of_fits :
    txAdd v G s = { s with txbuf := (txAdd v G s).txbuf, txIndex := s.txIndex + BitVec.ofNat 16 (3 * G),
                           status := report s 0 0 } := by
  rw [txAdd_of_fits v G hconf hfield hroom, txWriteGroups_frame]
  rfl

end

/-- An add to an unconfigured channel, or before its command field is written, changes only STATUS (R101). -/
theorem txAdd_of_not_ready {s : State} (v : Word) (G : Nat)
    (h : s.txConfigured = false ∨ (s.txNcmd ≠ 0 ∧ s.txIndex.toNat < s.txNcmd.toNat)) :
    txAdd v G s = { s with status := report s 0 4 } := by
  have hrefused (hconf : s.txConfigured = true)
      (hfield : ¬ (0 < s.txNcmd.toNat ∧ s.txIndex.toNat < s.txNcmd.toNat)) : False := by
    obtain hc | ⟨hn, hlt⟩ := h
    · exact absurd (hconf.symm.trans hc) nofun
    · exact ((not_fieldMissing_iff s).mp hfield).elim hn (not_le.mpr hlt)
  obtain ⟨-, he⟩ | ⟨hconf, hfield, -, -⟩ | ⟨hconf, hfield, -, -⟩ := txAdd_cases v G s
  · exact he
  · exact (hrefused hconf hfield).elim
  · exact (hrefused hconf hfield).elim

/-- An add whose groups do not fit changes only STATUS (R101). -/
theorem txAdd_of_overflow {s : State} {G : Nat} (v : Word) (hconf : s.txConfigured = true)
    (hfield : s.txNcmd = 0 ∨ s.txNcmd.toNat ≤ s.txIndex.toNat) (hG : 0 < G)
    (hover : s.txCap.toNat < s.txIndex.toNat + 3 * G) : txAdd v G s = { s with status := report s 0 1 } := by
  obtain ⟨hc | hn, -⟩ | ⟨-, -, -, he⟩ | ⟨-, -, hroom, -⟩ := txAdd_cases v G s
  · exact absurd (hconf.symm.trans hc) nofun
  · exact absurd hn ((not_fieldMissing_iff s).mpr hfield)
  · exact he
  · omega

/-! ## The commands -/

/-- Settles O26: TX_ADD_U16 is `txAdd` of one group, outcome by outcome. -/
theorem txAddU16Rule : Obligations.TxAddU16Rule := by
  refine ⟨decodesAs_bareWord (fun _ _ => rfl) rfl rfl, fun s => ?_⟩
  have hexec : exec .txAddU16 s = .next (txAdd s.dataIn 1 s) := rfl
  rw [hexec]
  refine ⟨fun hconf hfield hroom => ?_, fun h => congrArg _ (txAdd_of_not_ready s.dataIn 1 h),
    fun hconf hfield hover => congrArg _ (txAdd_of_overflow s.dataIn hconf hfield one_pos hover)⟩
  have hgroup : (txAdd s.dataIn 1 s).HoldsGroup s.txIndex.toNat (s.dataIn.extractLsb' 0 16) := by
    rw [txAdd_holdsGroup_iff_of_fits s.dataIn 1 hconf hfield hroom, valueGroups_one]
    exact txWriteGroups_holdsGroup_head _ _ _ s
  obtain ⟨hhigh, hlow, hcrc⟩ := hgroup.slice
  exact ⟨_, rfl, hhigh, hlow, hcrc, fun _ => txAdd_readTx_outside_of_fits s.dataIn 1 hconf hfield hroom,
    txAdd_frame_of_fits s.dataIn 1 hconf hfield hroom⟩

/-- Settles O27: both commands are `txAdd` of two groups, outcome by outcome. -/
theorem txAddU32AndF32Rule : Obligations.TxAddU32AndF32Rule := by
  refine ⟨decodesAs_bareWord (fun _ _ => rfl) rfl rfl, decodesAs_bareWord (fun _ _ => rfl) rfl rfl, fun i s hi => ?_⟩
  have hexec : exec i s = .next (txAdd s.dataIn 2 s) := by obtain rfl | rfl := hi <;> rfl
  rw [hexec]
  refine ⟨fun hconf hfield hroom => ?_, fun h => congrArg _ (txAdd_of_not_ready s.dataIn 2 h),
    fun hconf hfield hover => congrArg _ (txAdd_of_overflow s.dataIn hconf hfield two_pos hover)⟩
  have hfirst : (txAdd s.dataIn 2 s).HoldsGroup s.txIndex.toNat (s.dataIn.extractLsb' 16 16) := by
    rw [txAdd_holdsGroup_iff_of_fits s.dataIn 2 hconf hfield hroom, valueGroups_two]
    exact txWriteGroups_holdsGroup_head _ _ _ s
  have hsecond : (txAdd s.dataIn 2 s).HoldsGroup (s.txIndex.toNat + 3) (s.dataIn.extractLsb' 0 16) := by
    rw [txAdd_holdsGroup_iff_of_fits s.dataIn 2 hconf hfield hroom, valueGroups_two, txWriteGroups]
    exact txWriteGroups_holdsGroup_head _ _ _ _
  obtain ⟨hhigh₀, hlow₀, hcrc₀⟩ := hfirst.slice
  obtain ⟨hhigh₁, hlow₁, hcrc₁⟩ := hsecond.slice
  exact ⟨_, rfl, hhigh₀, hlow₀, hcrc₀, hhigh₁, hlow₁, hcrc₁,
    fun _ => txAdd_readTx_outside_of_fits s.dataIn 2 hconf hfield hroom,
    txAdd_frame_of_fits s.dataIn 2 hconf hfield hroom⟩

end Sys2Proof.Machine
end

section
/-! SUPPORT. The two ways to construct a TX channel with a command field (spec/41_tx_builder.md R108), run through the host
port (spec/43_control.md R141). -/

namespace Sys2Proof.Machine

open Sys2Proof.Claims

/-! ## Running commands from CMD -/

/-- A CMD write of a legal word runs its command (R23, R141). -/
theorem step_cmdWrite_of_legal {s : State} {w : Word} {es : List HostEvent} {i : Instr}
    (hpending : s.pending = cmdWrite s.cfg w :: es) (hw : decode w = .legal i) :
    step s = exec i (((s.setPending es).setAnswer .done).setCmd w) := by
  rw [step_commandEvent s w es hpending, command, hw]

/-- The word of a command decodes to it, where the fields of the word are those of its row and no further check is due
(R76). -/
theorem decode_encode_of_fields {i : Instr} (hi : Laws.EncodedFields.Statement i) (hop : opcodeOf i ≠ 0x01) :
    decode (encode i) = .legal i := by
  obtain ⟨hopcode, hrsv, hncmd, hlen, hrow⟩ := hi
  rw [← hopcode] at hncmd hlen hop
  exact (decode_legal_iff _ _).mpr ⟨hrow, hrsv, hncmd, hlen, fun h => absurd h hop⟩

/-- A run whose first step answers a next state goes on from it. -/
theorem core_run_succ_of_step {s t : State} (k : Nat) (h : step s = .next t) :
    Host.Core.run core (k + 1) s = Host.Core.run core k t := by
  have hcore : core.step s = .next t := h
  simp only [Host.Core.run, hcore]

/-! ## The two paths -/

/-- CMD and STATUS do not reach tx_write_cmd, and the report names whatever word CMD holds (R100, R152). -/
theorem txWriteCmd_ok_with_cmd_status (c : Half) (s : State) (w v : Word) :
    (txWriteCmd c { s with cmd := w, status := v }).ok =
      { txWriteCmd c s with cmd := w, status := statusWord 0 (opField w) 0 } := by
  unfold txWriteCmd
  by_cases hn : s.txNcmd = 2
  · rw [if_pos hn, if_pos hn]
    rfl
  · rw [if_neg hn, if_neg hn]
    rfl

/-- The channel both paths leave, with the last access answered and none waiting: configured, its command field
written. CMD and STATUS are still those of `s`. -/
def State.constructed (s : State) (n : BitVec 2) (cap : Half) : State :=
  txWriteCmd (commandCode s.dataIn) (((s.setPending []).setAnswer .done).txConfigure n cap)

/-- A CMD write of TX_INIT with a channel that fits (R102). -/
theorem step_txInit_of_fits {s : State} {n : BitVec 2} {cap : Half} {es : List HostEvent}
    (hpending : s.pending = cmdWrite s.cfg (commandWord 0x10 n cap) :: es) (hn : n ≠ 3)
    (hmax : cap.toNat ≤ s.cfg.maxCap) (hfit : n.toNat ≤ cap.toNat) :
    step s =
      .next ((((s.setPending es).setAnswer .done).setCmd (commandWord 0x10 n cap)).txConfigure n cap).ok :=
  (step_cmdWrite_of_legal hpending (decode_encode_of_fields (Laws.EncodedFields.txInit n cap) nofun)).trans
    (exec_txInit_of_fits hn hmax hfit)

/-- A CMD write of TX_ADD_CMD where the command field is due (R104). -/
theorem step_txAddCmd_of_ready {s : State} {es : List HostEvent}
    (hpending : s.pending = cmdWrite s.cfg 0x00000012 :: es) (hconf : s.txConfigured = true) (hn : s.txNcmd ≠ 0)
    (hindex : s.txIndex = 0) :
    step s = .next (txWriteCmd (commandCode s.dataIn) (((s.setPending es).setAnswer .done).setCmd 0x00000012)).ok :=
  (step_cmdWrite_of_legal hpending (decode_encode_of_fields Laws.EncodedFields.txAddCmd nofun)).trans
    (exec_txAddCmd_of_ready hconf hn hindex)

/-- A CMD write of TX_INIT_CMD with a channel that fits (R103). -/
theorem step_txInitCmd_of_fits {s : State} {n : BitVec 2} {cap : Half} {es : List HostEvent}
    (hpending : s.pending = cmdWrite s.cfg (commandWord 0x11 n cap) :: es) (hn : n = 1 ∨ n = 2)
    (hmax : cap.toNat ≤ s.cfg.maxCap) (hfit : n.toNat ≤ cap.toNat) :
    step s = .next (txWriteCmd (commandCode s.dataIn)
      ((((s.setPending es).setAnswer .done).setCmd (commandWord 0x11 n cap)).txConfigure n cap)).ok :=
  (step_cmdWrite_of_legal hpending (decode_encode_of_fields (Laws.EncodedFields.txInitCmd n cap) nofun)).trans
    (exec_txInitCmd_of_fits hn hmax hfit)

section

variable {s : State} {n : BitVec 2} {cap : Half} (hn : n = 1 ∨ n = 2) (hfit : n.toNat ≤ cap.toNat)
  (hmax : cap.toNat ≤ s.cfg.maxCap)

include hn hfit hmax

/-- TX_INIT and then TX_ADD_CMD, written to CMD one after the other, construct the channel. -/
theorem run_txInit_txAddCmd :
    Host.Core.run core 2
        { s with pending := [cmdWrite s.cfg (commandWord 0x10 n cap), cmdWrite s.cfg 0x00000012] } =
      .next { s.constructed n cap with cmd := 0x00000012, status := statusWord 0 0x12 0 } := by
  obtain ⟨hzero, hthree⟩ := ncmd_ne_of_one_or_two hn
  refine (core_run_succ_of_step 1 (step_txInit_of_fits (s := s.setPending [_, _]) rfl hthree hmax hfit)).trans ?_
  refine (core_run_succ_of_step 0 (step_txAddCmd_of_ready (es := []) rfl rfl hzero rfl)).trans ?_
  exact congrArg Host.Outcome.next
    (txWriteCmd_ok_with_cmd_status _ (((s.setPending []).setAnswer .done).txConfigure n cap) _ _)

/-- TX_INIT_CMD, written to CMD, constructs the channel. -/
theorem step_txInitCmd :
    step { s with pending := [cmdWrite s.cfg (commandWord 0x11 n cap)] } =
      .next { s.constructed n cap with cmd := commandWord 0x11 n cap, status := statusWord 0 0x11 0 } := by
  have hreport := txWriteCmd_ok_with_cmd_status (commandCode s.dataIn)
    (((s.setPending []).setAnswer .done).txConfigure n cap) (commandWord 0x11 n cap) s.status
  rw [opField_commandWord] at hreport
  exact (step_txInitCmd_of_fits (s := s.setPending [_]) rfl hn hmax hfit).trans (congrArg Host.Outcome.next hreport)

end

/-- Settles O28: both paths leave the constructed channel, and only the word in CMD and the report of it differ. -/
theorem constructionPathsAgree : Obligations.ConstructionPathsAgree := fun _ _ _ hn hfit hmax =>
  ⟨_, _, run_txInit_txAddCmd hn hfit hmax, step_txInitCmd hn hfit hmax, rfl, rfl, rfl, rfl, rfl, rfl, rfl, rfl⟩

end Sys2Proof.Machine
end

section
/-! SUPPORT. The commands that set up the RX channel (spec/42_rx_decoder.md R122, R123): their encodings, outcomes and
frames. -/

namespace Sys2Proof.Machine

open Sys2Proof.Claims

/-- The words of an opcode that uses LEN alone are legal when NCMD and RSV are 0 (R72, R73). -/
theorem decodesAs_lenWord {op : Byte} {mk : Half → Instr} (hrow : ∀ n len, instrOf op n len = some (mk len))
    (hncmd : usesNcmd op = false) (hlen : usesLen op = true) (hop : op ≠ 0x01) :
    DecodesAs op lenWord fun w => mk (lenOf w) := by
  refine decodesAs_of_row (fun _ => hrow _ _) fun w => ?_
  rw [lenWord_iff]
  exact ⟨fun ⟨hn, hrsv⟩ => ⟨hrsv, fun _ => hn, fun h => absurd (hlen.symm.trans h) nofun, fun h => absurd h hop⟩,
    fun ⟨hrsv, hn, _, _⟩ => ⟨hn hncmd, hrsv⟩⟩

/-- Settles O30: RX_INIT configures a channel that fits, and refuses every other one after unconfiguring. -/
theorem rxInitRule : Obligations.RxInitRule := by
  refine ⟨decodesAs_lenWord (fun _ _ => rfl) rfl rfl nofun, fun s cap => ?_⟩
  obtain ⟨hover, he⟩ | ⟨hfit, he⟩ := exec_rxInit_cases cap s
  · exact ⟨fun hfit => absurd hfit (not_le.mpr hover), fun _ => he⟩
  · exact ⟨fun _ => he, fun hover => absurd hfit (not_le.mpr hover)⟩

/-- Settles O31: RX_SET_LEN starts a configured channel over with a length that fits, and each refusal changes only
STATUS. -/
theorem rxSetLenRule : Obligations.RxSetLenRule := by
  refine ⟨decodesAs_lenWord (fun _ _ => rfl) rfl rfl nofun, fun s n => ?_⟩
  have hexclusive (hconf : s.rxConfigured = true) (hfit : n.toNat ≤ s.rxCap.toNat) :
      ¬ (s.rxConfigured = false ∨ s.rxCap.toNat < n.toNat) :=
    not_or.mpr ⟨by simp [hconf], not_lt.mpr hfit⟩
  obtain ⟨hrefused, he⟩ | ⟨hconf, hfit, he⟩ := exec_rxSetLen_cases n s
  · exact ⟨fun hconf hfit => absurd hrefused (hexclusive hconf hfit), fun _ => he⟩
  · exact ⟨fun _ _ => he, fun hrefused => absurd hrefused (hexclusive hconf hfit)⟩

end Sys2Proof.Machine
end

section
/-! SUPPORT. The gets (spec/42_rx_decoder.md R124 to R128): the value assembled from groups as a number, the outcomes of
`rxGet` one by one, and the encodings and frames of the three commands. -/

namespace Sys2Proof.Machine

open Sys2Proof.Claims

/-! ## Assembled values -/

/-- Shifting a word up and filling the freed bits is multiplication and addition. -/
theorem shiftLeft_or_eq_ofNat {w n : Nat} (a b : BitVec w) (hb : b.toNat < 2 ^ n) :
    a <<< n ||| b = BitVec.ofNat w (2 ^ n * a.toNat + b.toNat) := by
  apply BitVec.eq_of_toNat_eq
  rw [BitVec.toNat_or, BitVec.toNat_shiftLeft, BitVec.toNat_ofNat, Nat.mul_comm, ← Nat.shiftLeft_eq,
    Nat.shiftLeft_add_eq_or_of_lt hb, Nat.or_mod_two_pow, Nat.mod_eq_of_lt b.isLt]

/-- The group value {h, l} as a number (R57). -/
theorem groupValue_toNat (h l : Byte) : (groupValue h l).toNat = 256 * h.toNat + l.toNat := by
  have hwide (b : Byte) : (b.setWidth 16).toNat = b.toNat := BitVec.toNat_setWidth_of_le (by decide)
  rw [groupValue, shiftLeft_or_eq_ofNat _ _ (by rw [hwide]; omega), BitVec.toNat_ofNat, hwide, hwide]
  omega

/-- One group as a 32-bit value (R124). -/
theorem setWidth_groupValue (h l : Byte) :
    (groupValue h l).setWidth 32 = BitVec.ofNat 32 (256 * h.toNat + l.toNat) := by
  rw [← groupValue_toNat, BitVec.ofNat_toNat]

/-- Two groups as a 32-bit value, high half first (R125). -/
theorem groupValue_shiftLeft_or (h l h' l' : Byte) :
    (groupValue h l).setWidth 32 <<< 16 ||| (groupValue h' l').setWidth 32 =
      BitVec.ofNat 32 (16777216 * h.toNat + 65536 * l.toNat + 256 * h'.toNat + l'.toNat) := by
  have hwide (a b : Byte) : ((groupValue a b).setWidth 32).toNat = 256 * a.toNat + b.toNat := by
    rw [BitVec.toNat_setWidth_of_le (by decide), groupValue_toNat]
  rw [shiftLeft_or_eq_ofNat _ _ (by rw [hwide]; omega), hwide, hwide]
  congr 1
  omega

/-! ## The outcomes of rx_get -/

/-- A get from an unconfigured channel changes only STATUS (R120). -/
theorem rxGet_of_unconfigured {s : State} (G : Nat) (hconf : s.rxConfigured = false) :
    rxGet G s = { s with status := report s 0 4 } :=
  if_pos hconf

section

variable {s : State} {G : Nat} (hconf : s.rxConfigured = true)

include hconf

/-- A get of more bytes than are left changes only STATUS (R120). -/
theorem rxGet_of_insufficient (hG : 0 < G) (hover : s.rxNumBytes.toNat < s.rxIndex.toNat + 3 * G) :
    rxGet G s = { s with status := report s 0 2 } := by
  obtain ⟨hc, -⟩ | ⟨-, -, he⟩ | ⟨-, hroom, -⟩ | ⟨-, hroom, -⟩ := rxGet_cases G s
  · exact absurd (hconf.symm.trans hc) nofun
  · exact he
  · omega
  · omega

variable (hroom : s.rxIndex.toNat + 3 * G ≤ s.rxNumBytes.toNat)

include hroom

/-- A get that meets a group whose checksum differs reports that group's offset and changes only STATUS (R120). -/
theorem rxGet_of_mismatch {off : Nat} (hg : rxGather s G s.rxIndex.toNat 0 = .mismatch off) :
    rxGet G s = { s with status := report s (BitVec.ofNat 16 off) 3 } := by
  obtain ⟨hc, -⟩ | ⟨-, hover, -⟩ | ⟨-, -, _, hg', he⟩ | ⟨-, -, _, hg', -⟩ := rxGet_cases G s
  · exact absurd (hconf.symm.trans hc) nofun
  · omega
  · cases hg.symm.trans hg'
    exact he
  · cases hg.symm.trans hg'

/-- A get whose groups are all valid writes their value to RESULT and moves the index past them (R120). -/
theorem rxGet_of_value {v : Word} (hg : rxGather s G s.rxIndex.toNat 0 = .value v) :
    rxGet G s = { s with result := v, rxIndex := s.rxIndex + BitVec.ofNat 16 (3 * G), status := report s 0 0 } := by
  obtain ⟨hc, -⟩ | ⟨-, hover, -⟩ | ⟨-, -, _, hg', -⟩ | ⟨-, -, _, hg', he⟩ := rxGet_cases G s
  · exact absurd (hconf.symm.trans hc) nofun
  · omega
  · cases hg.symm.trans hg'
  · cases hg.symm.trans hg'
    exact he

end

/-- A get whose report is no success changes only STATUS (R128). -/
theorem rxGet_of_code_ne_ok {G : Nat} {s : State} (h : statusCode (rxGet G s).status ≠ okCode) :
    rxGet G s = { s with status := (rxGet G s).status } := by
  obtain ⟨-, he⟩ | ⟨-, -, he⟩ | ⟨-, -, off, -, he⟩ | ⟨-, -, v, -, he⟩ := rxGet_cases G s
  · rw [he]; rfl
  · rw [he]; rfl
  · rw [he]; rfl
  · exact absurd (by rw [he, State.ok_status, statusCode_statusWord]) h

/-! ## One group and two groups -/

section

variable {s : State} {o : Nat}

/-- A received group whose checksum is right has the value of its two data bytes (R121). -/
theorem rxGroup_of_crc (h : crc8 [s.readRx o, s.readRx (o + 1)] = s.readRx (o + 2)) :
    rxGroup s o = some (groupValue (s.readRx o) (s.readRx (o + 1))) :=
  (rxGroup_some s o _).mpr ⟨h, rfl⟩

/-- A received group whose checksum differs has no value (R121). -/
theorem rxGroup_of_crc_ne (h : crc8 [s.readRx o, s.readRx (o + 1)] ≠ s.readRx (o + 2)) : rxGroup s o = none :=
  (rxGroup_none s o).mpr h

end

/-! ## The commands -/

/-- Settles O32: RX_GET_U16 is `rxGet` of one group, outcome by outcome. -/
theorem rxGetU16Rule : Obligations.RxGetU16Rule := by
  refine ⟨decodesAs_bareWord (fun _ _ => rfl) rfl rfl, fun s h l c hh hl hc => ?_⟩
  subst hh hl hc
  have hexec : exec .rxGetU16 s = .next (rxGet 1 s) := rfl
  rw [hexec]
  refine ⟨fun hconf hroom hcrc => congrArg _ ?_, fun hconf hroom hcrc => congrArg _ ?_,
    fun hconf hover => congrArg _ (rxGet_of_insufficient hconf one_pos hover),
    fun hconf => congrArg _ (rxGet_of_unconfigured 1 hconf)⟩
  · rw [← setWidth_groupValue]
    exact rxGet_of_value hconf hroom (by rw [rxGather_one, rxGroup_of_crc hcrc])
  · have hmismatch := rxGet_of_mismatch (G := 1) hconf hroom (by rw [rxGather_one, rxGroup_of_crc_ne hcrc])
    rwa [BitVec.ofNat_toNat, BitVec.setWidth_eq] at hmismatch

/-- Settles O33: both commands are `rxGet` of two groups, outcome by outcome. -/
theorem rxGetU32AndF32Rule : Obligations.RxGetU32AndF32Rule := by
  refine ⟨decodesAs_bareWord (fun _ _ => rfl) rfl rfl, decodesAs_bareWord (fun _ _ => rfl) rfl rfl,
    fun i s h l c h' l' c' hi hh hl hc hh' hl' hc' => ?_⟩
  subst hh hl hc hh' hl' hc'
  have hexec : exec i s = .next (rxGet 2 s) := by obtain rfl | rfl := hi <;> rfl
  rw [hexec]
  refine ⟨fun hconf hroom hfirst hsecond => congrArg _ ?_, fun hconf hroom hfirst => congrArg _ ?_,
    fun hconf hroom hfirst hsecond => congrArg _ ?_,
    fun hconf hover => congrArg _ (rxGet_of_insufficient hconf two_pos hover),
    fun hconf => congrArg _ (rxGet_of_unconfigured 2 hconf)⟩
  · rw [← groupValue_shiftLeft_or]
    exact rxGet_of_value hconf hroom (by rw [rxGather_two, rxGroup_of_crc hfirst, rxGroup_of_crc hsecond])
  · have hmismatch := rxGet_of_mismatch (G := 2) hconf hroom (by rw [rxGather_two, rxGroup_of_crc_ne hfirst])
    rwa [BitVec.ofNat_toNat, BitVec.setWidth_eq] at hmismatch
  · have hmismatch := rxGet_of_mismatch (G := 2) hconf hroom
      (by rw [rxGather_two, rxGroup_of_crc hfirst, rxGroup_of_crc_ne hsecond])
    rwa [BitVec.ofNat_add, BitVec.ofNat_toNat, BitVec.setWidth_eq] at hmismatch

/-- Settles O34: each of the three gets is `rxGet`, and its one outcome that moves a register reports a success. -/
theorem failedGetChangesOnlyStatus : Obligations.FailedGetChangesOnlyStatus := by
  intro i s t hget h hcode
  cases i with
  | rxGetU16 | rxGetU32 | rxGetF32 =>
    cases h
    exact rxGet_of_code_ne_ok hcode
  | _ => cases hget

end Sys2Proof.Machine
end

section
/-! SUPPORT. NOP (spec/43_control.md R140): its encoding, outcome and frame. -/

namespace Sys2Proof.Machine

open Sys2Proof.Claims

/-- NOP changes STATUS alone, to the report of a success (R140, R152). -/
theorem exec_nop (s : State) : exec .nop s = .next { s with status := report s 0 0 } := rfl

/-- The success of the word 0 is reported as 0: its LAST_OP is 0 too (R152). -/
theorem report_ok_of_cmd_zero {s : State} (hcmd : s.cmd = 0) : report s 0 0 = 0 := by
  rw [report, hcmd]
  decide

/-- Settles O38: only bare words decode to NOP, which ends with a success and nothing else; that success is 0 when CMD
holds 0. -/
theorem nopRule : Obligations.NopRule := by
  refine ⟨decodesAs_bareWord (fun _ _ => rfl) rfl rfl, exec_nop, fun s hcmd => ?_⟩
  rw [exec_nop, report_ok_of_cmd_zero hcmd]

end Sys2Proof.Machine
end

section
/-! SUPPORT. Decode and encode undo each other (spec/30_encoding.md R70 to R76): what a row of the opcode table says
of the command it names, and which words the decode rule lets through. -/

namespace Sys2Proof

/-! ## The rows of the opcode table -/

/-- The fields of every command's word, put together from the lemma of each command. -/
theorem encodedFields : ∀ i : Instr, Laws.EncodedFields.Statement i
  | .nop => Laws.EncodedFields.nop
  | .crcCalc len => Laws.EncodedFields.crcCalc len
  | .crcCheck => Laws.EncodedFields.crcCheck
  | .txInit n cap => Laws.EncodedFields.txInit n cap
  | .txInitCmd n cap => Laws.EncodedFields.txInitCmd n cap
  | .txAddCmd => Laws.EncodedFields.txAddCmd
  | .txAddU16 => Laws.EncodedFields.txAddU16
  | .txAddU32 => Laws.EncodedFields.txAddU32
  | .txAddF32 => Laws.EncodedFields.txAddF32
  | .rxInit cap => Laws.EncodedFields.rxInit cap
  | .rxSetLen n => Laws.EncodedFields.rxSetLen n
  | .rxGetU16 => Laws.EncodedFields.rxGetU16
  | .rxGetU32 => Laws.EncodedFields.rxGetU32
  | .rxGetF32 => Laws.EncodedFields.rxGetF32

/-- The command of opcode 0x01 is CRC_CALC, of the count LEN (R75). -/
theorem eq_crcCalc_of_instrOf {op : Byte} {n : BitVec 2} {len : Half} {i : Instr} (h : instrOf op n len = some i)
    (hop : op = 0x01) : i = .crcCalc len := by
  subst hop
  exact (Option.some.inj h).symm

/-- A command is well formed when its row names it and the one check of R73 passes. -/
theorem wf_of_instrOf {op : Byte} {n : BitVec 2} {len : Half} {i : Instr} (h : instrOf op n len = some i)
    (hcount : op = 0x01 → len.toNat ≤ 4) : i.wf = true := by
  cases i with
  | crcCalc count =>
    obtain ⟨hop, rfl⟩ : op = 0x01 ∧ count = len := by simpa [instrOf_some_iff] using h
    exact decide_eq_true (hcount hop)
  | _ => rfl

/-- A command's word is put together from the fields its row reads, where the fields it does not read are 0 (R70,
R75). -/
theorem encode_of_instrOf {op : Byte} {n : BitVec 2} {len : Half} {i : Instr} (h : instrOf op n len = some i)
    (hncmd : usesNcmd op = false → n = 0) (hlen : usesLen op = false → len = 0) : encode i = commandWord op n len := by
  obtain ⟨rfl, rfl⟩ | ⟨rfl, rfl⟩ | ⟨rfl, rfl⟩ | ⟨rfl, rfl⟩ | ⟨rfl, rfl⟩ | ⟨rfl, rfl⟩ | ⟨rfl, rfl⟩ | ⟨rfl, rfl⟩ |
    ⟨rfl, rfl⟩ | ⟨rfl, rfl⟩ | ⟨rfl, rfl⟩ | ⟨rfl, rfl⟩ | ⟨rfl, rfl⟩ | ⟨rfl, rfl⟩ := (instrOf_some_iff op n len i).mp h
  all_goals simp_all [encode, usesNcmd, usesLen]

/-- Settles O2: the fields of the word name the command again, and a well-formed CRC_CALC passes the count check. -/
theorem decodeOfEncodeIsTheCommand : Obligations.DecodeOfEncodeIsTheCommand := by
  intro i hi
  obtain ⟨hop, hrsv, hncmd, hlen, hrow⟩ := encodedFields i
  refine (decode_legal_iff _ _).mpr ⟨hrow, hrsv, by rwa [hop], by rwa [hop], fun hcalc => ?_⟩
  rw [eq_crcCalc_of_instrOf hrow hcalc] at hi
  exact of_decide_eq_true hi

/-- Settles O3: a legal word is its fields, and its row reads every field that is not 0. -/
theorem encodeOfDecodeIsTheWord : Obligations.EncodeOfDecodeIsTheWord := by
  intro w i h
  obtain ⟨hrow, hrsv, hncmd, hlen, hcount⟩ := (decode_legal_iff w i).mp h
  exact ⟨(encode_of_instrOf hrow hncmd hlen).trans (eq_commandWord_of_fields w hrsv).symm, wf_of_instrOf hrow hcount⟩

/-! ## The words the decode rule lets through -/

/-- An opcode names a command exactly when it is one of the fourteen of the table (R75). -/
theorem exists_instrOf_iff (op : Byte) (n : BitVec 2) (len : Half) :
    (∃ i, instrOf op n len = some i) ↔
      op.toNat ∈ [0x00, 0x01, 0x02, 0x10, 0x11, 0x12, 0x13, 0x14, 0x15, 0x20, 0x21, 0x22, 0x23, 0x24] := by
  simp only [instrOf_some_iff, exists_or, exists_and_left, exists_eq, and_true, BitVec.toNat_eq, List.mem_cons,
    List.not_mem_nil, or_false]
  rfl

/-- The opcodes that use NCMD, by number (R72). -/
theorem usesNcmd_eq_false_iff (op : Byte) : usesNcmd op = false ↔ op.toNat ∉ [0x10, 0x11] := by
  simp [usesNcmd, BitVec.toNat_eq]

/-- The opcodes that use LEN, by number (R73). -/
theorem usesLen_eq_false_iff (op : Byte) : usesLen op = false ↔ op.toNat ∉ [0x10, 0x11, 0x20, 0x21, 0x01] := by
  simp [usesLen, BitVec.toNat_eq, and_assoc]

/-- Settles O4: the decode rule's checks, clause by clause, with the opcodes by number. -/
theorem legalWordsAreThoseOfTheDecodeRule : Obligations.LegalWordsAreThoseOfTheDecodeRule := by
  intro w
  simp only [decode_legal_iff, exists_and_right, exists_instrOf_iff, usesNcmd_eq_false_iff, usesLen_eq_false_iff,
    BitVec.toNat_eq (x := opField w)]
  rfl

/-- Settles O1: the decoder answers each word as written out, by computation. -/
theorem decodesWrittenOutWords : Obligations.DecodesWrittenOutWords := by
  unfold Obligations.DecodesWrittenOutWords
  decide

end Sys2Proof
end

section
/-! SUPPORT. The laws of the checksum (spec/40_checksum.md R94), from the CRC register's step being linear and undone
by no other byte than 0. -/

namespace Sys2Proof.Machine

open Sys2Proof.Claims

/-! ## The register's kernel -/

/-- No other byte than 0 is shifted to 0: a bit shifted out comes back in the polynomial. -/
theorem crcBit_eq_zero : ∀ {c : Byte}, crcBit c = 0#8 → c = 0#8 := by decide

theorem crcShift_eq_zero_iff (n : Nat) (c : Byte) : crcShift n c = 0#8 ↔ c = 0#8 := by
  induction n generalizing c with
  | zero => rfl
  | succ n ih =>
    rw [crcShift, ih]
    refine ⟨crcBit_eq_zero, ?_⟩
    rintro rfl
    rfl

theorem crcShift_injective (n : Nat) : Function.Injective (crcShift n) := fun a b h => by
  have hzero : crcShift n (a ^^^ b) = 0#8 := by rw [crcShift_xor, h, BitVec.xor_self]
  exact BitVec.xor_eq_zero_iff.mp ((crcShift_eq_zero_iff n _).mp hzero)

/-! ## The checksum of two bytes -/

/-- A difference in the register and one in the byte run through the register together. -/
theorem crcByte_xor (c b d e : Byte) : crcByte (c ^^^ d) (b ^^^ e) = crcByte c b ^^^ crcShift 8 (d ^^^ e) := by
  rw [crcByte, crcByte, ← crcShift_xor]
  congr 1
  ac_rfl

/-- The checksum of two bytes with a difference in each is that of the bytes, with the differences run through the
register on their own. -/
theorem crc8_pair_xor (h l x y : Byte) :
    crc8 [h ^^^ x, l ^^^ y] = crc8 [h, l] ^^^ crcShift 8 (crcShift 8 x ^^^ y) := by
  have hfirst : crcByte crcInit (h ^^^ x) = crcByte crcInit h ^^^ crcShift 8 x := by
    have := crcByte_xor crcInit h 0#8 x
    rwa [BitVec.xor_zero, BitVec.zero_xor] at this
  calc crc8 [h ^^^ x, l ^^^ y] = crcByte (crcByte crcInit (h ^^^ x)) (l ^^^ y) := rfl
    _ = crcByte (crcByte crcInit h) l ^^^ crcShift 8 (crcShift 8 x ^^^ y) := by rw [hfirst, crcByte_xor]

/-- A group's bytes and their checksum leave 0 in the register (R94). -/
theorem crc8_residue (h l : Byte) : crc8 [h, l, crc8 [h, l]] = 0 := by
  calc crc8 [h, l, crc8 [h, l]] = crcByte (crc8 [h, l]) (crc8 [h, l]) := crc8_snoc [h, l] _
    _ = crcShift 8 0 := congrArg (crcShift 8) BitVec.xor_self
    _ = 0 := crcShift_zero_right

/-- With the high byte fixed, no two low bytes have one checksum. -/
theorem crc8_pair_injective (h : Byte) : Function.Injective fun l : Byte => crc8 [h, l] :=
  fun _ _ hcrc => (BitVec.xor_right_inj _).mp (crcShift_injective 8 hcrc)

/-- There are finitely many bytes. -/
theorem finite_byte : Finite Byte := Finite.of_injective BitVec.toFin fun _ _ => BitVec.eq_of_toFin_eq

/-- Settles O19: the residue is the register's difference with itself, and on finitely many bytes the injection is a
bijection. -/
theorem crcResidueAndBijection : Obligations.CrcResidueAndBijection :=
  have := finite_byte
  ⟨rfl, crc8_residue, fun h => Finite.injective_iff_bijective.mp (crc8_pair_injective h)⟩

/-! ## Flipped bits -/

/-- A group with a difference in some byte fails its check, unless the difference in the checksum byte is the one the
data bytes' differences make. -/
theorem crc8_pair_xor_ne {h l x y z : Byte} (hdiff : crcShift 8 (crcShift 8 x ^^^ y) ≠ z) :
    crc8 [h ^^^ x, l ^^^ y] ≠ crc8 [h, l] ^^^ z := fun heq =>
  hdiff ((BitVec.xor_right_inj _).mp ((crc8_pair_xor h l x y).symm.trans heq))

/-- A single flipped bit is a difference. -/
theorem one_shiftLeft_ne_zero {j : Nat} (hj : j < 8) : 1#8 <<< j ≠ 0#8 := by
  interval_cases j <;> decide

/-- Flipping one bit of three bytes makes a difference in one of them alone, which is no difference that the other bytes
make up for. -/
theorem flipBit_triple {k : Nat} (hk : k < 24) (p q r : Byte) : ∃ x y z,
    flipBit k [p, q, r] = [p ^^^ x, q ^^^ y, r ^^^ z] ∧ crcShift 8 (crcShift 8 x ^^^ y) ≠ z := by
  have hzero : crcShift 8 0#8 = 0#8 := crcShift_zero_right
  have hbit := one_shiftLeft_ne_zero (Nat.mod_lt k (by decide : 8 > 0))
  obtain hbyte | hbyte | hbyte : k / 8 = 0 ∨ k / 8 = 1 ∨ k / 8 = 2 := by omega
  · refine ⟨1#8 <<< (k % 8), 0#8, 0#8, by simp [flipBit, hbyte], ?_⟩
    rwa [BitVec.xor_zero, Ne, crcShift_eq_zero_iff, crcShift_eq_zero_iff]
  · refine ⟨0#8, 1#8 <<< (k % 8), 0#8, by simp [flipBit, hbyte], ?_⟩
    rwa [hzero, BitVec.zero_xor, Ne, crcShift_eq_zero_iff]
  · refine ⟨0#8, 0#8, 1#8 <<< (k % 8), by simp [flipBit, hbyte], ?_⟩
    rw [hzero, BitVec.xor_zero, hzero]
    exact hbit.symm

/-- Settles O20: the differences a flipped bit makes do not cancel, so the check fails. -/
theorem crcDetectsEveryFlippedBit : Obligations.CrcDetectsEveryFlippedBit := by
  intro h l k hk a b c hflip
  obtain ⟨x, y, z, htriple, hdiff⟩ := flipBit_triple hk h l (crc8 [h, l])
  cases htriple.symm.trans hflip
  exact crc8_pair_xor_ne hdiff

end Sys2Proof.Machine
end

section
/-! SUPPORT. How a command ends, said once for all fourteen: it raises an error its row of the table lets it raise, or
it writes what R24 to R33 and R55 let it write and reports a success (spec/60_exceptions.md R151 to R153). -/

namespace Sys2Proof.Machine

open Sys2Proof.Claims

/-! ## What a command may write and raise -/

/-- What a command may have written when it goes from `s` to `t`, STATUS aside: each field is left as it was unless the
command is one of those that write it (R24, R26, R28, R29, R31 to R33, R55). -/
structure WritesOnly (i : Instr) (s t : State) : Prop where
  cmd : t.cmd = s.cmd
  dataIn : t.dataIn = s.dataIn
  rxbuf : t.rxbuf = s.rxbuf
  cfg : t.cfg = s.cfg
  epoch : t.epoch = s.epoch
  pending : t.pending = s.pending
  answer : t.answer = s.answer
  txIndex : isTx i = false → t.txIndex = s.txIndex
  txChannel : isTxInit i = false → t.txConfigured = s.txConfigured ∧ t.txNcmd = s.txNcmd ∧ t.txCap = s.txCap
  txbuf : writesTxbuf i = false → t.txbuf = s.txbuf
  rxIndex : isRxGet i = false → setsRxLen i = false → t.rxIndex = s.rxIndex
  rxChannel : isRxInit i = false → t.rxConfigured = s.rxConfigured ∧ t.rxCap = s.rxCap
  rxNumBytes : setsRxLen i = false → t.rxNumBytes = s.rxNumBytes
  result : producesResult i = false → t.result = s.result

/-- The state at which a command raises its error: an INIT command unconfigures its channel first (R43). -/
def State.beforeRaise (s : State) (i : Instr) : State :=
  if isTxInit i then s.txUnconfigure else if isRxInit i then s.rxUnconfigure else s

/-- The table of R151: which command may raise which error. -/
def MayRaise (i : Instr) : ErrorKind → Prop
  | .bufferOverflow => i = .txAddU16 ∨ i = .txAddU32 ∨ i = .txAddF32
  | .insufficientData => isRxGet i = true
  | .checksumMismatch => isRxGet i = true ∨ i = .crcCheck
  | .invalidConfiguration => isTx i = true ∨ isRxGet i = true ∨ setsRxLen i = true
  | .illegalCommand => i.wf = false

/-- The two ends of a command (R152, R153). -/
inductive Ends (i : Instr) (s : State) : State → Prop
  /-- It raises an error; only an RX get that found a mismatch names an offset. -/
  | failed (e : ErrorKind) (off : Nat) (hraise : MayRaise i e)
      (hoff : off ≠ 0 → isRxGet i = true ∧ e = .checksumMismatch) : Ends i s ((s.beforeRaise i).raise e off)
  /-- It has written what it may and reports a success; an INIT command has configured its channel. -/
  | done (t : State) (hwrites : WritesOnly i s t) (htx : isTxInit i = true → t.txConfigured = true)
      (hrx : isRxInit i = true → t.rxConfigured = true) : Ends i s t.ok

/-! ## What the operations write -/

theorem writesOnly_refl (i : Instr) (s : State) : WritesOnly i s s := by
  constructor <;> simp

theorem isTx_of_isTxInit {i : Instr} (hi : isTxInit i = true) : isTx i = true := by
  cases i with
  | txInit n cap | txInitCmd n cap => rfl
  | _ => cases hi

theorem setsRxLen_of_isRxInit {i : Instr} (hi : isRxInit i = true) : setsRxLen i = true := by
  cases i with
  | rxInit cap => rfl
  | _ => cases hi

theorem writesOnly_beforeRaise (i : Instr) (s : State) : WritesOnly i s (s.beforeRaise i) := by
  unfold State.beforeRaise
  split
  next htx =>
    have := isTx_of_isTxInit htx
    constructor <;> simp [*]
  next =>
    split
    next hrx =>
      have := setsRxLen_of_isRxInit hrx
      constructor <;> simp [*]
    next => exact writesOnly_refl i s

/-- A command that is no INIT command raises its errors at the state it starts from. -/
theorem beforeRaise_of_not_init {i : Instr} (s : State) (htx : isTxInit i = false) (hrx : isRxInit i = false) :
    s.beforeRaise i = s := by
  simp [State.beforeRaise, htx, hrx]

/-- tx_write_cmd writes the command field and TX_INDEX alone (R100). -/
theorem WritesOnly.txWriteCmd {i : Instr} {s t : State} (h : WritesOnly i s t) (htx : isTx i = true)
    (hbuf : writesTxbuf i = true) (c : Half) : WritesOnly i s (txWriteCmd c t) := by
  rw [txWriteCmd_frame]
  exact { h with
    txIndex := fun hi => absurd (htx.symm.trans hi) nofun
    txbuf := fun hi => absurd (hbuf.symm.trans hi) nofun }

/-! ## The shared operations -/

/-- An error of a command that is no INIT command ends it. -/
theorem ends_raise {i : Instr} (s : State) (htx : isTxInit i = false) (hrx : isRxInit i = false) {e : ErrorKind}
    {off : Nat} (hraise : MayRaise i e) (hoff : off ≠ 0 → isRxGet i = true ∧ e = .checksumMismatch) :
    Ends i s (s.raise e off) := by
  have := Ends.failed (s := s) e off hraise hoff
  rwa [beforeRaise_of_not_init s htx hrx] at this

/-- A success of a command that is no INIT command ends it. -/
theorem ends_ok {i : Instr} {s t : State} (htx : isTxInit i = false) (hrx : isRxInit i = false)
    (hwrites : WritesOnly i s t) : Ends i s t.ok :=
  .done t hwrites (fun hi => absurd (htx.symm.trans hi) nofun) (fun hi => absurd (hrx.symm.trans hi) nofun)

theorem txAdd_ends {i : Instr} (hi : i = .txAddU16 ∨ i = .txAddU32 ∨ i = .txAddF32) (v : Word) (G : Nat) (s : State) :
    Ends i s (txAdd v G s) := by
  obtain ⟨htx, hbuf, htxInit, hrxInit⟩ :
      isTx i = true ∧ writesTxbuf i = true ∧ isTxInit i = false ∧ isRxInit i = false := by
    obtain rfl | rfl | rfl := hi <;> exact ⟨rfl, rfl, rfl, rfl⟩
  obtain ⟨-, he⟩ | ⟨-, -, -, he⟩ | ⟨-, -, -, he⟩ := txAdd_cases v G s <;> rw [he]
  · exact ends_raise s htxInit hrxInit (.inl htx) (absurd rfl)
  · exact ends_raise s htxInit hrxInit hi (absurd rfl)
  · rw [txWriteGroups_frame]
    exact ends_ok htxInit hrxInit { writesOnly_refl i s with
      txIndex := fun hi => absurd (htx.symm.trans hi) nofun
      txbuf := fun hi => absurd (hbuf.symm.trans hi) nofun }

theorem rxGet_ends {i : Instr} (hget : isRxGet i = true) (hres : producesResult i = true) (htx : isTxInit i = false)
    (hrx : isRxInit i = false) (G : Nat) (s : State) : Ends i s (rxGet G s) := by
  obtain ⟨-, he⟩ | ⟨-, -, he⟩ | ⟨-, -, off, -, he⟩ | ⟨-, -, v, -, he⟩ := rxGet_cases G s <;> rw [he]
  · exact ends_raise s htx hrx (.inr (.inl hget)) (absurd rfl)
  · exact ends_raise s htx hrx hget (absurd rfl)
  · exact ends_raise s htx hrx (.inl hget) fun _ => ⟨hget, rfl⟩
  · exact ends_ok htx hrx { writesOnly_refl i s with
      rxIndex := fun hi => absurd (hget.symm.trans hi) nofun
      result := fun hi => absurd (hres.symm.trans hi) nofun }

theorem setResult_ends {i : Instr} (hres : producesResult i = true) (htx : isTxInit i = false)
    (hrx : isRxInit i = false) (s : State) (v : Word) : Ends i s (s.setResult v).ok :=
  ends_ok htx hrx { writesOnly_refl i s with result := fun hi => absurd (hres.symm.trans hi) nofun }

theorem writesOnly_txConfigure {i : Instr} (hi : isTxInit i = true) (s : State) (n : BitVec 2) (cap : Half) :
    WritesOnly i s (s.txConfigure n cap) :=
  { writesOnly_refl i s with
    txIndex := fun h => absurd ((isTx_of_isTxInit hi).symm.trans h) nofun
    txChannel := fun h => absurd (hi.symm.trans h) nofun }

/-! ## The commands -/

/-- Every command ends (R141), in one of the two ways. -/
theorem exec_ends (i : Instr) (s : State) : ∃ t, exec i s = .next t ∧ Ends i s t := by
  cases i with
  | nop => exact ⟨_, rfl, ends_ok rfl rfl (writesOnly_refl _ s)⟩
  | crcCalc len =>
    obtain ⟨hlt, he⟩ | ⟨-, he⟩ := exec_crcCalc_cases len s
    · exact ⟨_, he, ends_raise s rfl rfl (decide_eq_false (not_le.mpr hlt)) (absurd rfl)⟩
    · exact ⟨_, he, setResult_ends rfl rfl rfl s _⟩
  | crcCheck =>
    obtain ⟨-, he⟩ | ⟨-, he⟩ := exec_crcCheck_cases s
    · exact ⟨_, he, ends_raise s rfl rfl (.inr rfl) (absurd rfl)⟩
    · exact ⟨_, he, setResult_ends rfl rfl rfl s _⟩
  | txInit n cap =>
    obtain ⟨-, he⟩ | ⟨-, -, -, he⟩ := exec_txInit_cases n cap s
    · exact ⟨_, he, .failed (i := .txInit n cap) .invalidConfiguration 0 (.inl rfl) (absurd rfl)⟩
    · exact ⟨_, he, .done _ (writesOnly_txConfigure rfl s n cap) (fun _ => rfl) nofun⟩
  | txInitCmd n cap =>
    obtain ⟨-, he⟩ | ⟨-, -, -, -, he⟩ := exec_txInitCmd_cases n cap s
    · exact ⟨_, he, .failed (i := .txInitCmd n cap) .invalidConfiguration 0 (.inl rfl) (absurd rfl)⟩
    · exact ⟨_, he, .done _ ((writesOnly_txConfigure rfl s n cap).txWriteCmd rfl rfl _)
        (fun _ => by rw [txWriteCmd_frame]; rfl) nofun⟩
  | txAddCmd =>
    obtain ⟨-, he⟩ | ⟨-, -, -, he⟩ := exec_txAddCmd_cases s
    · exact ⟨_, he, ends_raise s rfl rfl (.inl rfl) (absurd rfl)⟩
    · exact ⟨_, he, ends_ok rfl rfl ((writesOnly_refl _ s).txWriteCmd rfl rfl _)⟩
  | txAddU16 => exact ⟨_, rfl, txAdd_ends (.inl rfl) _ 1 s⟩
  | txAddU32 => exact ⟨_, rfl, txAdd_ends (.inr (.inl rfl)) _ 2 s⟩
  | txAddF32 => exact ⟨_, rfl, txAdd_ends (.inr (.inr rfl)) _ 2 s⟩
  | rxInit cap =>
    obtain ⟨-, he⟩ | ⟨-, he⟩ := exec_rxInit_cases cap s
    · exact ⟨_, he, .failed (i := .rxInit cap) .invalidConfiguration 0 (.inr (.inr rfl)) (absurd rfl)⟩
    · exact ⟨_, he, .done _ { writesOnly_refl _ s with rxIndex := nofun, rxChannel := nofun, rxNumBytes := nofun }
        nofun fun _ => rfl⟩
  | rxSetLen n =>
    obtain ⟨-, he⟩ | ⟨-, -, he⟩ := exec_rxSetLen_cases n s
    · exact ⟨_, he, ends_raise s rfl rfl (.inr (.inr rfl)) (absurd rfl)⟩
    · exact ⟨_, he, ends_ok rfl rfl { writesOnly_refl _ s with rxIndex := nofun, rxNumBytes := nofun }⟩
  | rxGetU16 => exact ⟨_, rfl, rxGet_ends rfl rfl rfl rfl 1 s⟩
  | rxGetU32 | rxGetF32 => exact ⟨_, rfl, rxGet_ends rfl rfl rfl rfl 2 s⟩

theorem Ends.of_exec {i : Instr} {s t : State} (h : exec i s = .next t) : Ends i s t := by
  obtain ⟨t', he, hends⟩ := exec_ends i s
  cases he.symm.trans h
  exact hends

/-- A command writes what it may, however it ends. -/
theorem WritesOnly.of_exec {i : Instr} {s t : State} (h : exec i s = .next t) : WritesOnly i s t := by
  cases Ends.of_exec h with
  | failed e off => exact { writesOnly_beforeRaise i s with }
  | done t hwrites => exact { hwrites with }

/-- Settles O41: each clause is what a command may write. -/
theorem whichCommandWritesWhat : Obligations.WhichCommandWritesWhat := by
  intro i s t h
  have hw := WritesOnly.of_exec h
  exact ⟨hw.cmd, hw.dataIn, hw.rxbuf, hw.cfg, hw.epoch, hw.pending, hw.answer, hw.txIndex, hw.txChannel, hw.txbuf,
    hw.rxIndex, hw.rxChannel, hw.rxNumBytes, hw.result⟩

end Sys2Proof.Machine
end

section
/-! SUPPORT. What follows from the two ends of a command: its report (spec/60_exceptions.md R151 to R153), the failed
commands (R43), the configured bits (spec/10_state.md R35) and the unconfigured channels (spec/70_reset_and_hazards.md
R181). -/

namespace Sys2Proof.Machine

open Sys2Proof.Claims

/-! ## The fields of a report -/

section

variable (s : State) (off : Half) (code : BitVec 4)

theorem report_code : (report s off code).extractLsb' 0 4 = code := statusCode_statusWord _ _ _

theorem report_reserved : (report s off code).extractLsb' 4 4 = 0 := statusReserved_statusWord _ _ _

theorem report_lastOp : (report s off code).extractLsb' 8 8 = s.cmd.extractLsb' 0 8 := statusLastOp_statusWord _ _ _

theorem report_errOffset : (report s off code).extractLsb' 16 16 = off := statusErrOffset_statusWord _ _ _

end

/-- A success reports {0, CMD[7:0], 0} (R152). -/
theorem WritesOnly.ok_status {i : Instr} {s t : State} (h : WritesOnly i s t) : t.ok.status = report s 0 0 := by
  rw [State.ok_status, h.cmd]
  rfl

/-- An error reports its offset, CMD[7:0] and its code (R153). -/
theorem beforeRaise_raise_status (i : Instr) (s : State) (e : ErrorKind) (off : Nat) :
    ((s.beforeRaise i).raise e off).status = report s (BitVec.ofNat 16 off) e.code := by
  rw [State.raise_status, (writesOnly_beforeRaise i s).cmd]
  rfl

/-! ## Failed commands -/

theorem beforeRaise_of_isTxInit {i : Instr} (s : State) (hi : isTxInit i = true) : s.beforeRaise i = s.txUnconfigure :=
  if_pos hi

theorem beforeRaise_of_isRxInit {i : Instr} (s : State) (hi : isRxInit i = true) :
    s.beforeRaise i = s.rxUnconfigure := by
  cases i with
  | rxInit cap => rfl
  | _ => cases hi

/-- Settles O39: a command whose report is no success has raised an error, at `State.beforeRaise`. -/
theorem failedCommandChangesOnlyStatus : Obligations.FailedCommandChangesOnlyStatus := by
  intro i s t h hcode
  cases Ends.of_exec h with
  | done t hwrites => exact absurd (by rw [hwrites.ok_status, report_code]) hcode
  | failed e off hraise hoff =>
    refine ⟨fun htx hrx => ?_, fun htx => ?_, fun hrx => ?_, ?_, fun hne => ?_⟩
    · rw [beforeRaise_of_not_init s htx hrx]
      rfl
    · rw [beforeRaise_of_isTxInit s htx]
      rfl
    · rw [beforeRaise_of_isRxInit s hrx]
      rfl
    · rw [beforeRaise_raise_status, report_lastOp]
    · rw [beforeRaise_raise_status, report_errOffset] at hne
      obtain ⟨hget, rfl⟩ := hoff fun h => hne (congrArg (BitVec.ofNat 16) h)
      exact ⟨hget, by rw [beforeRaise_raise_status, report_code]; rfl⟩

/-- Settles O40: a success's code is 0, and an error's code is that of a kind the table lets the command raise. -/
theorem codesAreThoseOfTheTable : Obligations.CodesAreThoseOfTheTable := by
  intro i s t hwf h
  cases Ends.of_exec h with
  | done t hwrites =>
    rw [hwrites.ok_status, report_code]
    simp
  | failed e off hraise =>
    rw [beforeRaise_raise_status, report_code]
    cases e with
    | illegalCommand => exact absurd (hwf.symm.trans hraise) nofun
    | _ => simpa [ErrorKind.code, MayRaise] using hraise

/-! ## Channels -/

/-- Settles O46: an INIT command that succeeds configures its channel, one that fails unconfigures it, and no other
command writes the bit. -/
theorem configuredBitFollowsInit : Obligations.ConfiguredBitFollowsInit := by
  intro i s t h
  have hwrites := WritesOnly.of_exec h
  refine ⟨fun hi => ?_, fun hi => (hwrites.txChannel hi).1, fun hi => ?_, fun hi => (hwrites.rxChannel hi).1⟩
  · cases Ends.of_exec h with
    | done t hdone htx =>
      rw [hdone.ok_status, report_code]
      exact ⟨fun _ => rfl, fun _ => htx hi⟩
    | failed e off =>
      rw [beforeRaise_raise_status, report_code, beforeRaise_of_isTxInit s hi]
      exact ⟨nofun, fun h => absurd h e.code_ne_ok⟩
  · cases Ends.of_exec h with
    | done t hdone _ hrx =>
      rw [hdone.ok_status, report_code]
      exact ⟨fun _ => rfl, fun _ => hrx hi⟩
    | failed e off =>
      rw [beforeRaise_raise_status, report_code, beforeRaise_of_isRxInit s hi]
      exact ⟨nofun, fun h => absurd h e.code_ne_ok⟩

/-- Settles O47: an unconfigured channel fails the first check of every command but INIT, and NOP and CRC_CALC check no
channel. -/
theorem unconfiguredChannelsRefuse : Obligations.UnconfiguredChannelsRefuse := by
  intro i s
  refine ⟨fun hconf htx hinit => ?_, fun hconf hrx hinit => ?_, fun hwf hi => ?_⟩
  · cases i with
    | txAddCmd => exact (txAddCmdRule.2 s).2 (.inl hconf)
    | txAddU16 => exact congrArg _ (txAdd_of_not_ready s.dataIn 1 (.inl hconf))
    | txAddU32 | txAddF32 => exact congrArg _ (txAdd_of_not_ready s.dataIn 2 (.inl hconf))
    | txInit n cap | txInitCmd n cap => cases hinit
    | _ => cases htx
  · cases i with
    | rxSetLen n => exact (rxSetLenRule.2 s n).2 (.inl hconf)
    | rxGetU16 => exact congrArg _ (rxGet_of_unconfigured 1 hconf)
    | rxGetU32 | rxGetF32 => exact congrArg _ (rxGet_of_unconfigured 2 hconf)
    | rxInit cap => cases hinit
    | _ => simp [isRxGet, setsRxLen] at hrx
  · obtain rfl | ⟨n, rfl⟩ := hi
    · exact ⟨_, exec_nop s, rfl⟩
    · exact ⟨_, exec_crcCalc_of_le s (of_decide_eq_true hwf), rfl⟩

end Sys2Proof.Machine
end

section
/-! SUPPORT. The host port, access by access (spec/20_memory.md R50 to R56, R67): what each allowed access answers,
and that every other one inside FRAMER gets a bus error. -/

namespace Sys2Proof.Machine

open Sys2Proof.Claims

/-! ## Accesses at an offset -/

/-- A pending read inside FRAMER is a read at its offset (R50). -/
theorem step_read {s : State} {bits off : Nat} {es : List HostEvent}
    (hpending : s.pending = .access (.read bits (s.cfg.base + off)) :: es) (hoff : off < 0x3000) :
    step s = portRead bits off (s.setPending es) := by
  rw [step_cons s _ es hpending]
  exact portAccess_read bits off (s.setPending es) hoff

/-- A pending write inside FRAMER is a write at its offset (R50). -/
theorem step_write {s : State} {bits off : Nat} {v : BitVec bits} {es : List HostEvent}
    (hpending : s.pending = .access (.write bits (s.cfg.base + off) v) :: es) (hoff : off < 0x3000) :
    step s = portWrite bits off v (s.setPending es) := by
  rw [step_cons s _ es hpending]
  exact portAccess_write bits off v (s.setPending es) hoff

/-- Every register lies in the registers' range, at a multiple of 4 (R50). -/
theorem Reg.offset_bounds (r : Reg) : r.offset ≤ 0x030 ∧ r.offset % 4 = 0 := by
  cases r <;> decide

/-- The offsets the allowed reads name are those of the registers (R50). -/
theorem mem_registerOffsets_iff {off : Nat} :
    off ∈ [0x000, 0x004, 0x008, 0x00C, 0x010, 0x014, 0x018, 0x020, 0x024, 0x028, 0x02C, 0x030] ↔
      ∃ r : Reg, off = r.offset := by
  constructor
  · intro h
    obtain ⟨r, -, rfl⟩ := List.mem_map.mp (show off ∈ Reg.all.map Reg.offset from h)
    exact ⟨r, rfl⟩
  · rintro ⟨r, rfl⟩
    cases r <;> decide

/-! ## What the allowed accesses answer -/

theorem portRead_register (r : Reg) (s : State) :
    portRead 32 r.offset s = .next (s.setAnswer (.word (readReg s r))) := by
  simp [portRead, region_register]

theorem portRead_txWindow {s : State} {i : Nat} (hi : i < s.cfg.maxCap) (hmax : s.cfg.maxCap ≤ 0x1000) :
    portRead 8 (0x1000 + i) s = .next (s.setAnswer (.byte (s.readTx i))) := by
  simp [portRead, region_txWindow s.cfg.maxCap i hi (by omega)]

theorem portRead_rxWindow {s : State} {i : Nat} (hi : i < s.cfg.maxCap) (hmax : s.cfg.maxCap ≤ 0x1000) :
    portRead 8 (0x2000 + i) s = .next (s.setAnswer (.byte (s.readRx i))) := by
  simp [portRead, region_rxWindow s.cfg.maxCap i hi (by omega)]

theorem portWrite_rxWindow {s : State} {i : Nat} (b : Byte) (hi : i < s.cfg.maxCap) (hmax : s.cfg.maxCap ≤ 0x1000) :
    portWrite 8 (0x2000 + i) b s = .next ((s.setAnswer .done).writeRx i b) := by
  simp [portWrite, region_rxWindow s.cfg.maxCap i hi (by omega)]

/-- A byte write into the RX window stores the byte (R51). -/
theorem step_writeRx {s : State} {i : Nat} {b : Byte} {es : List HostEvent}
    (hpending : s.pending = .access (.write 8 (s.cfg.base + 0x2000 + i) b) :: es) (hi : i < s.cfg.maxCap)
    (hmax : s.cfg.maxCap ≤ 0x1000) : step s = .next (((s.setPending es).setAnswer .done).writeRx i b) := by
  rw [Nat.add_assoc] at hpending
  rw [step_write hpending (by omega)]
  exact portWrite_rxWindow (s := s.setPending es) b hi hmax

/-- Settles O12: the DATA_IN register of the map stores. -/
theorem dataInWriteOnlyStores : Obligations.DataInWriteOnlyStores := by
  intro s es v hpending
  rw [step_write hpending (by decide)]
  exact portWrite_register .dataIn v _

/-- Settles O11: each window's offsets are its buffer's bytes. -/
theorem windowAccessesReachTheBuffers : Obligations.WindowAccessesReachTheBuffers := by
  rintro s es i b ⟨-, hmax, -⟩ hi
  refine ⟨fun hpending => ?_, fun hpending => ?_, fun hpending => ?_⟩
  · rw [Nat.add_assoc] at hpending
    rw [step_read hpending (by omega)]
    exact portRead_txWindow (s := s.setPending es) hi hmax
  · rw [Nat.add_assoc] at hpending
    rw [step_read hpending (by omega)]
    exact portRead_rxWindow (s := s.setPending es) hi hmax
  · refine ⟨_, step_writeRx hpending hi hmax, ?_, fun a ha => ?_, fun a => rfl, rfl⟩
    · rw [State.writeRx_readRx, if_pos rfl]
    · rw [State.writeRx_readRx, if_neg ha]
      rfl

/-! ## What the registers read as -/

/-- TX_CTRL as a number: TX_NCMD at bit 4, STATE below it (R27). -/
theorem readReg_txCtrl (s : State) :
    readReg s .txCtrl = BitVec.ofNat 32 (16 * s.txNcmd.toNat + s.txState.toNat) := by
  have hwide (x : BitVec 2) : (x.setWidth 32).toNat = x.toNat := BitVec.toNat_setWidth_of_le (by decide)
  rw [readReg, shiftLeft_or_eq_ofNat _ _ (by rw [hwide]; omega), hwide, hwide]
  rfl

/-- ID as a number: the revision in the top byte, MAX_CAP below it (R34). -/
theorem readReg_id {s : State} (hmax : s.cfg.maxCap ≤ 4096) :
    readReg s .id = BitVec.ofNat 32 (0x01000000 + s.cfg.maxCap) := by
  have hcap : ((BitVec.ofNat 16 s.cfg.maxCap).setWidth 32).toNat = s.cfg.maxCap := by
    rw [BitVec.toNat_setWidth_of_le (by decide), BitVec.toNat_ofNat, Nat.mod_eq_of_lt (by omega)]
  rw [readReg, shiftLeft_or_eq_ofNat _ _ (by rw [hcap]; omega), hcap]
  rfl

/-- Settles O9: each offset is a register's, and the value is what that register reads as. -/
theorem registerReadsAnswerTheirValue : Obligations.RegisterReadsAnswerTheirValue := by
  rintro s es off v ⟨-, hmax, -⟩ hmem hpending
  obtain ⟨r, rfl, rfl⟩ : ∃ r : Reg, off = r.offset ∧ v = readReg s r := by
    simp only [BitVec.ofNat_toNat, ← readReg_txCtrl, ← readReg_id hmax] at hmem
    obtain ⟨r, -, hr⟩ := List.mem_map.mp (show (off, v) ∈ Reg.all.map fun r => (r.offset, readReg s r) from hmem)
    exact ⟨r, (congrArg Prod.fst hr).symm, (congrArg Prod.snd hr).symm⟩
  rw [step_read hpending (by have := r.offset_bounds; omega)]
  exact portRead_register r _

/-! ## Commands -/

/-- Settles O5: the step is the command's meaning at the state it is written out with. -/
theorem stepRunsTheDecodedCommand : Obligations.StepRunsTheDecodedCommand := fun _ _ _ _ => step_cmdWrite_of_legal

/-- Settles O6: the step of an illegal word is the report alone. -/
theorem illegalWordOnlyReports : Obligations.IllegalWordOnlyReports := fun _ _ _ _ => step_cmdWrite_of_illegal

/-- Every write to CMD ends in a next state (R141). -/
theorem command_total (w : Word) (s : State) : ∃ t, command w s = .next t := by
  unfold command
  split
  next i _ =>
    obtain ⟨t, ht, -⟩ := exec_ends i (s.setCmd w)
    exact ⟨t, ht⟩
  next => exact ⟨_, rfl⟩

/-- A write to CMD stores the word and writes what some command may. -/
theorem command_writesOnly {w : Word} {s t : State} (h : command w s = .next t) : ∃ i, WritesOnly i (s.setCmd w) t := by
  obtain ⟨i, -, hexec⟩ | ⟨e, -, rfl⟩ := command_next h
  · exact ⟨i, .of_exec hexec⟩
  · exact ⟨.nop, { writesOnly_refl .nop (s.setCmd w) with }⟩

/-- STATUS has its form where it is a report of CMD whose code is produced and whose offset is a mismatch's (R25). -/
theorem statusInv_of_report {s t : State} {off : Half} {code : BitVec 4} (hcmd : t.cmd = s.cmd)
    (hstatus : t.status = report s off code) (hcode : code.toNat ≤ 5) (hoff : code ≠ 3 → off = 0) : StatusInv t := by
  constructor <;> rw [hstatus]
  · rwa [statusCode, report_code]
  · exact report_reserved s off code
  · rw [hcmd]
    exact report_lastOp s off code
  · intro hne
    rw [statusErrOffset, report_errOffset]
    rw [statusCode, report_code] at hne
    exact hoff hne

/-- The report of a command is of the form of R25, whatever STATUS held. -/
theorem Ends.statusInv {i : Instr} {s t : State} (h : Ends i s t) : StatusInv t := by
  cases h with
  | done t hwrites => exact statusInv_of_report hwrites.cmd hwrites.ok_status (by decide) fun _ => rfl
  | failed e off _ hoff =>
    refine statusInv_of_report (writesOnly_beforeRaise i s).cmd (beforeRaise_raise_status i s e off) e.code_le
      fun hne => ?_
    have hzero : off = 0 := by
      by_contra hne'
      exact hne (by rw [(hoff hne').2]; rfl)
    rw [hzero]
    rfl

/-- Every write to CMD leaves a report of the form of R25 (R141, R151). -/
theorem command_statusInv {w : Word} {s t : State} (h : command w s = .next t) : StatusInv t := by
  obtain ⟨i, -, hexec⟩ | ⟨e, -, rfl⟩ := command_next h
  · exact (Ends.of_exec hexec).statusInv
  · exact statusInv_of_report (s := s.setCmd w) rfl rfl (by decide) fun _ => rfl

/-- Settles O7: the command ends, DATA_IN is not its to write, and its report has the form of R25. -/
theorem everyCommandWriteCompletesAndReports : Obligations.EveryCommandWriteCompletesAndReports := by
  intro s w es hpending
  obtain ⟨t, ht⟩ := command_total w ((s.setPending es).setAnswer .done)
  obtain ⟨i, hwrites⟩ := command_writesOnly ht
  have hstatus := command_statusInv ht
  exact ⟨t, (step_commandEvent s w es hpending).trans ht, hwrites.pending, hwrites.cmd, hwrites.dataIn,
    hstatus.lastOp.trans (by rw [hwrites.cmd]; rfl), hstatus.reserved, hstatus.code_le, hstatus.errOffset⟩

end Sys2Proof.Machine
end

section
/-! SUPPORT. Which accesses complete and which get a bus error (spec/20_memory.md R52 to R56, R67), which are refused,
and what a step never changes (R20, R63). -/

namespace Sys2Proof.Machine

open Sys2Proof.Claims

/-! ## Allowed accesses -/

/-- Settles O13: each allowed access has an outcome of its own, and none takes another event. -/
theorem allowedAccessesSucceed : Obligations.AllowedAccessesSucceed := by
  rintro s es a ⟨-, hmax, -⟩ hpending hallowed
  cases a with
  | read bits addr =>
    obtain ⟨rfl, off, hoff, rfl⟩ | ⟨rfl, i, hi, rfl | rfl⟩ := hallowed
    · obtain ⟨r, rfl⟩ := mem_registerOffsets_iff.mp hoff
      refine ⟨_, (step_read hpending ?_).trans (portRead_register r _), rfl⟩
      have := r.offset_bounds
      omega
    · rw [Nat.add_assoc] at hpending
      exact ⟨_, (step_read hpending (by omega)).trans (portRead_txWindow (s := s.setPending es) hi hmax), rfl⟩
    · rw [Nat.add_assoc] at hpending
      exact ⟨_, (step_read hpending (by omega)).trans (portRead_rxWindow (s := s.setPending es) hi hmax), rfl⟩
  | write bits addr v =>
    obtain ⟨rfl, rfl | rfl⟩ | ⟨rfl, i, hi, rfl⟩ := hallowed
    · obtain ⟨t, ht, hes, -⟩ := everyCommandWriteCompletesAndReports s v es hpending
      exact ⟨t, ht, hes⟩
    · exact ⟨_, dataInWriteOnlyStores s es v hpending, rfl⟩
    · exact ⟨_, step_writeRx hpending hi hmax, rfl⟩

/-! ## Bus errors -/

/-- A byte of the TX window is found at its own offset alone, and lies below MAX_CAP (R50, R51). -/
theorem region_eq_txWindow {maxCap off i : Nat} (h : region maxCap off = .txWindow i) :
    off = 0x1000 + i ∧ i < maxCap := by
  unfold region at h
  split at h
  · split at h
    next => cases h
    next => split at h <;> cases h
  next hwindow =>
    split at h
    · split at h
      next hcap =>
        obtain rfl := Region.txWindow.inj h
        exact ⟨(Nat.add_sub_cancel' (not_lt.mp hwindow)).symm, hcap⟩
      next => cases h
    · split at h
      · split at h <;> cases h
      · cases h

/-- A read that is not allowed gets a bus error (R54). -/
theorem portRead_of_not_allowed {bits off : Nat} {s : State}
    (h : ¬ (Access.read bits (s.cfg.base + off)).allowed s.cfg) : ∃ c, portRead bits off s = busError c := by
  unfold portRead
  split
  next => exact ⟨_, rfl⟩
  next r hr =>
    refine ⟨_, if_neg fun hbits => h (.inl ⟨hbits, off, ?_, rfl⟩)⟩
    exact mem_registerOffsets_iff.mpr ⟨r, region_eq_register hr⟩
  next => split <;> exact ⟨_, rfl⟩
  next i hi =>
    obtain ⟨rfl, hlt⟩ := region_eq_txWindow hi
    exact ⟨_, if_neg fun hbits => h (.inr ⟨hbits, i, hlt, .inl (Nat.add_assoc _ _ _).symm⟩)⟩
  next i hi =>
    obtain ⟨rfl, hlt⟩ := region_eq_rxWindow hi
    exact ⟨_, if_neg fun hbits => h (.inr ⟨hbits, i, hlt, .inr (Nat.add_assoc _ _ _).symm⟩)⟩

/-- A register other than CMD and DATA_IN is read only (R54). -/
theorem writeReg_of_readOnly {r : Reg} (hcmd : r ≠ .cmd) (hdata : r ≠ .dataIn) (v : Word) (s : State) :
    writeReg r v s = busError .readOnlyRegister := by
  cases r with
  | cmd => exact absurd rfl hcmd
  | dataIn => exact absurd rfl hdata
  | _ => rfl

/-- A write that is not allowed gets a bus error (R54, R55). -/
theorem portWrite_of_not_allowed {bits off : Nat} {v : BitVec bits} {s : State}
    (h : ¬ (Access.write bits (s.cfg.base + off) v).allowed s.cfg) : ∃ c, portWrite bits off v s = busError c := by
  unfold portWrite
  split
  next => exact ⟨_, rfl⟩
  next r hr =>
    split
    next hbits =>
      have hoff := region_eq_register hr
      refine ⟨_, writeReg_of_readOnly ?_ ?_ _ s⟩
      · rintro rfl
        exact h (.inl ⟨hbits, .inl (congrArg _ hoff)⟩)
      · rintro rfl
        exact h (.inl ⟨hbits, .inr (congrArg _ hoff)⟩)
    next => exact ⟨_, rfl⟩
  next => split <;> exact ⟨_, rfl⟩
  next => split <;> exact ⟨_, rfl⟩
  next i hi =>
    obtain ⟨rfl, hlt⟩ := region_eq_rxWindow hi
    exact ⟨_, if_neg fun hbits => h (.inr ⟨hbits, i, hlt, (Nat.add_assoc _ _ _).symm⟩)⟩

/-- Settles O14: at every offset of the map the port answers an access that is not allowed with a bus error. -/
theorem otherAccessesGetABusError : Obligations.OtherAccessesGetABusError := by
  intro s es a _ hpending hlo hhi hnot
  obtain ⟨off, haddr⟩ := Nat.exists_eq_add_of_le hlo
  cases a with
  | read bits addr =>
    obtain rfl : addr = s.cfg.base + off := haddr
    rw [step_read hpending (Nat.lt_of_add_lt_add_left hhi)]
    exact portRead_of_not_allowed (s := s.setPending es) hnot
  | write bits addr v =>
    obtain rfl : addr = s.cfg.base + off := haddr
    rw [step_write hpending (Nat.lt_of_add_lt_add_left hhi)]
    exact portWrite_of_not_allowed (s := s.setPending es) hnot

/-- An allowed access is one of 32 bits at a register, or one of 8 bits into a window (R52, R53). -/
theorem Access.allowed_cases {p : Params} {a : Access} (h : a.allowed p) :
    (a.bits = 32 ∧ ∃ r : Reg, a.addr = p.base + r.offset) ∨ (a.bits = 8 ∧ p.base + 0x1000 ≤ a.addr) := by
  cases a with
  | read bits addr =>
    obtain ⟨hbits, off, hoff, haddr⟩ | ⟨hbits, i, -, haddr⟩ := h
    · obtain ⟨r, rfl⟩ := mem_registerOffsets_iff.mp hoff
      exact .inl ⟨hbits, r, haddr⟩
    · exact .inr ⟨hbits, by simp only [Access.addr]; omega⟩
  | write bits addr v =>
    obtain ⟨hbits, haddr | haddr⟩ | ⟨hbits, i, -, haddr⟩ := h
    · exact .inl ⟨hbits, .cmd, haddr⟩
    · exact .inl ⟨hbits, .dataIn, haddr⟩
    · exact .inr ⟨hbits, by simp only [Access.addr]; omega⟩

/-- Settles O53: an access of a forbidden width or alignment is not an allowed one. -/
theorem forbiddenWidthsAndAlignmentsGetABusError : Obligations.ForbiddenWidthsAndAlignmentsGetABusError := by
  intro s es a off hwf hpending haddr hforbidden
  have hmax := hwf.2.1
  refine otherAccessesGetABusError s es a hwf hpending (by omega) (by omega) fun hallowed => ?_
  obtain ⟨hbits, r, hr⟩ | ⟨hbits, hwindow⟩ := Access.allowed_cases hallowed
  · have hbounds := r.offset_bounds
    omega
  · omega

/-! ## Refused accesses and idle steps -/

/-- Settles O15: an address outside FRAMER has no offset, and a second host's access is refused before it is looked
at. -/
theorem outsideAccessesAndSecondHostsAreRefused : Obligations.OutsideAccessesAndSecondHostsAreRefused := by
  refine fun s es a => ⟨fun hpending haddr => ?_, fun hpending => step_cons s _ es hpending⟩
  have hoff : offsetOf s.cfg a.addr = none := if_neg (by simp only [spanBytes]; omega)
  rw [step_cons s _ es hpending, hostEvent, portAccess, State.setPending_cfg, hoff]

/-- Settles O8: with nothing pending the step has nothing to take. -/
theorem idleFramerHoldsItsState : Obligations.IdleFramerHoldsItsState := step_nil

/-! ## Side effects -/

/-- What a read answers does not depend on what else waits or was answered before (R56). -/
theorem portRead_answer {bits off : Nat} {s t t' : State} {es : List HostEvent} {a : Option Answer}
    (h : portRead bits off s = .next t) (h' : portRead bits off { s with pending := es, answer := a } = .next t') :
    t'.answer = t.answer := by
  unfold portRead at h h'
  dsimp only at h'
  cases hr : region s.cfg.maxCap off <;> rw [hr] at h h' <;> dsimp only at h h'
  case unmapped => cases h
  case misaligned => split at h <;> cases h
  all_goals
    split at h
    next hbits =>
      rw [if_pos hbits] at h'
      cases h
      cases h'
      rfl
    next => cases h

theorem portAccess_read_answer {bits addr : Nat} {s t t' : State} {es : List HostEvent} {a : Option Answer}
    (h : portAccess (.read bits addr) s = .next t)
    (h' : portAccess (.read bits addr) { s with pending := es, answer := a } = .next t') : t'.answer = t.answer := by
  unfold portAccess at h h'
  dsimp only at h'
  cases hoff : offsetOf s.cfg (Access.read bits addr).addr with
  | none =>
    rw [hoff] at h
    cases h
  | some off =>
    rw [hoff] at h h'
    exact portRead_answer h h'

/-- A pending access that completes is one the port completes. -/
theorem portAccess_of_step {s t : State} {a : Access} {es : List HostEvent} (hpending : s.pending = .access a :: es)
    (h : step s = .next t) : portAccess a (s.setPending es) = .next t :=
  (step_cons s _ es hpending).symm.trans h

/-- A read that completes changes nothing but its answer (R56). -/
theorem portAccess_read_frame {bits addr : Nat} {s t : State} (h : portAccess (.read bits addr) s = .next t) :
    t = { s with answer := t.answer } := by
  obtain ⟨-, -, ans, -, rfl⟩ | ⟨w, hw, -⟩ | ⟨v, hv, -⟩ | ⟨i, b, -, hb, -⟩ := portAccess_next h
  · rfl
  · cases hw
  · cases hv
  · cases hb

/-- Settles O16: of what an access that completes can do only a CMD write reaches further than its answer and its
data. -/
theorem onlyCommandWritesHaveEffects : Obligations.OnlyCommandWritesHaveEffects := by
  refine ⟨fun s t es bits addr hpending h => ?_, fun s t u es bits addr hpending hfirst hsecond => ?_,
    fun s t es a hpending hcmd h => ?_⟩
  · exact portAccess_read_frame (portAccess_of_step hpending h)
  · have ht := portAccess_read_frame (portAccess_of_step hpending hfirst)
    have hagain := portAccess_of_step (es := es) (congrArg State.pending ht) hsecond
    rw [ht] at hagain
    exact portAccess_read_answer (portAccess_of_step hpending hfirst) hagain
  · obtain ⟨-, -, ans, -, rfl⟩ | ⟨w, hw, -⟩ | ⟨v, rfl, rfl⟩ | ⟨i, b, -, rfl, rfl⟩ :=
      portAccess_next (portAccess_of_step hpending h)
    · exact ⟨rfl, fun hne => absurd rfl hne, fun hne => absurd rfl hne⟩
    · exact absurd hw (hcmd w)
    · exact ⟨rfl, fun _ => rfl, fun hne => absurd rfl hne⟩
    · exact ⟨rfl, fun hne => absurd rfl hne, fun _ => ⟨i, b, rfl, rfl⟩⟩

end Sys2Proof.Machine
end

section
/-! SUPPORT. What every step keeps: the parameters and the queue (spec/10_state.md R20; spec/20_memory.md R63), the
form of STATUS (R25, R151) and that of the buffers (R40); and the state after reset (R42, R180). -/

namespace Sys2Proof.Machine

open Sys2Proof.Claims

/-! ## Parameters and the queue -/

/-- An access that completes changes neither the parameters nor what else waits. -/
theorem portAccess_cfg_pending {a : Access} {s t : State} (h : portAccess a s = .next t) :
    t.cfg = s.cfg ∧ t.pending = s.pending := by
  obtain ⟨-, -, ans, -, rfl⟩ | ⟨w, -, hc⟩ | ⟨v, -, rfl⟩ | ⟨i, b, -, -, rfl⟩ := portAccess_next h
  · exact ⟨rfl, rfl⟩
  · obtain ⟨i, hwrites⟩ := command_writesOnly hc
    exact ⟨hwrites.cfg, hwrites.pending⟩
  · exact ⟨rfl, rfl⟩
  · exact ⟨rfl, rfl⟩

/-- Settles O52: of the three things a step can do, two take the oldest event and one finds none, and no one of them
writes the parameters. -/
theorem stepKeepsParametersAndTakesOneEvent : Obligations.StepKeepsParametersAndTakesOneEvent := by
  intro s t h
  obtain ⟨hpending, rfl⟩ | ⟨es, hpending, rfl⟩ | ⟨a, es, hpending, ha⟩ := step_next h
  · exact ⟨rfl, by rw [hpending]; rfl⟩
  · exact ⟨rfl, by rw [hpending]; rfl⟩
  · rw [hpending]
    exact portAccess_cfg_pending ha

/-! ## STATUS -/

/-- The form of STATUS speaks of STATUS and CMD alone. -/
theorem StatusInv.of_eq {s t : State} (hs : StatusInv s) (hstatus : t.status = s.status) (hcmd : t.cmd = s.cmd) :
    StatusInv t := by
  obtain ⟨hcode, hreserved, hlast, hoff⟩ := hs
  constructor <;> simpa only [hstatus, hcmd]

/-- The reset state's STATUS is the report of a success at CMD 0. -/
theorem statusInv_resetWith (p : Params) (k : Nat) (es : List HostEvent) : StatusInv (State.resetWith p k es) :=
  statusInv_of_report rfl (report_ok_of_cmd_zero rfl).symm (by decide) fun _ => rfl

/-- Settles O49: a command writes a whole report, the reset input clears STATUS and CMD, and no other step writes
either. -/
theorem stepKeepsStatusForm : Obligations.StepKeepsStatusForm := by
  intro s t hs h
  obtain ⟨-, rfl⟩ | ⟨es, -, rfl⟩ | ⟨a, es, -, ha⟩ := step_next h
  · exact hs
  · exact statusInv_resetWith s.cfg (s.epoch + 1) es
  · obtain ⟨-, -, ans, -, rfl⟩ | ⟨w, -, hc⟩ | ⟨v, -, rfl⟩ | ⟨i, b, -, -, rfl⟩ := portAccess_next ha
    · exact hs.of_eq rfl rfl
    · exact command_statusInv hc
    · exact hs.of_eq rfl rfl
    · exact hs.of_eq rfl rfl

/-! ## TXBUF -/

/-- A command field that fits below `limit` keeps TXBUF's form (R40, R100). -/
theorem txWriteCmd_wf_of_fits {limit : Nat} {s : State} (c : Half) (hs : Memory.wf limit s.txbuf = true)
    (hn : s.txNcmd ≠ 0) (hfit : s.txNcmd.toNat ≤ limit) : Memory.wf limit (txWriteCmd c s).txbuf = true := by
  refine txWriteCmd_wf c s hs ?_ fun htwo => by rwa [htwo] at hfit
  have hpos : s.txNcmd.toNat ≠ 0 := fun h => hn (BitVec.eq_of_toNat_eq h)
  omega

/-- An add keeps TXBUF's form where the capacity stays below `limit` (R40, R101). -/
theorem txAdd_wf {limit : Nat} {s : State} (v : Word) (G : Nat) (hs : Memory.wf limit s.txbuf = true)
    (hindex : s.txIndex.toNat ≤ s.txCap.toNat) (hcap : s.txCap.toNat ≤ limit) :
    Memory.wf limit (txAdd v G s).txbuf = true := by
  obtain ⟨-, he⟩ | ⟨-, -, -, he⟩ | ⟨-, -, hroom, he⟩ := txAdd_cases v G s <;> rw [he]
  · exact hs
  · exact hs
  · exact txWriteGroups_wf _ _ s hs (by rw [valueGroups_length]; omega)

/-- Every command keeps TXBUF's form (R40). -/
theorem exec_keeps_txbuf_wf {i : Instr} {s t : State} (htx : TxInv s) (hs : Memory.wf s.cfg.maxCap s.txbuf = true)
    (h : exec i s = .next t) : Memory.wf s.cfg.maxCap t.txbuf = true := by
  cases i with
  | txInitCmd n cap =>
    obtain ⟨-, he⟩ | ⟨hzero, -, hmax, hfit, he⟩ := exec_txInitCmd_cases n cap s
    · cases he.symm.trans h
      exact hs
    · cases he.symm.trans h
      exact txWriteCmd_wf_of_fits (s := s.txConfigure n cap) _ hs hzero (hfit.trans hmax)
  | txAddCmd =>
    obtain ⟨-, he⟩ | ⟨hconf, hzero, -, he⟩ := exec_txAddCmd_cases s
    · cases he.symm.trans h
      exact hs
    · cases he.symm.trans h
      exact txWriteCmd_wf_of_fits _ hs hzero ((htx.configured hconf).1.trans htx.cap_le_maxCap)
  | txAddU16 => cases h; exact txAdd_wf s.dataIn 1 hs htx.index_le_cap htx.cap_le_maxCap
  | txAddU32 | txAddF32 => cases h; exact txAdd_wf s.dataIn 2 hs htx.index_le_cap htx.cap_le_maxCap
  | _ => rwa [(WritesOnly.of_exec h).txbuf rfl]

/-- An add leaves every byte at or above the capacity alone (R40, R101). -/
theorem txAdd_readTx_of_ge_cap {s : State} (v : Word) (G : Nat) {a : Nat} (hindex : s.txIndex.toNat ≤ s.txCap.toNat)
    (ha : s.txCap.toNat ≤ a) : (txAdd v G s).readTx a = s.readTx a := by
  obtain ⟨-, he⟩ | ⟨-, -, -, he⟩ | ⟨-, -, hroom, he⟩ := txAdd_cases v G s <;> rw [he]
  · rfl
  · rfl
  · exact txWriteGroups_outside _ _ _ s (.inr (by rw [valueGroups_length]; omega))

/-- Settles O44: every byte a command writes lies in the command field or in a group, and both end below the capacity.
-/
theorem commandsLeaveBytesAboveCapacity : Obligations.CommandsLeaveBytesAboveCapacity := by
  intro i s t htx h a ha
  have hwrites := WritesOnly.of_exec h
  cases i with
  | txInitCmd n cap =>
    obtain ⟨-, he⟩ | ⟨hzero, -, -, hfit, he⟩ := exec_txInitCmd_cases n cap s
    · cases he.symm.trans h
      rfl
    · cases he.symm.trans h
      have hcap : (txWriteCmd (commandCode s.dataIn) (s.txConfigure n cap)).ok.txCap = cap := by
        rw [txWriteCmd_frame]
        rfl
      rw [hcap] at ha
      exact txWriteCmd_readTx_of_ge (s := s.txConfigure n cap) _ hzero (hfit.trans ha)
  | txAddCmd =>
    rw [(hwrites.txChannel rfl).2.2] at ha
    obtain ⟨-, he⟩ | ⟨hconf, hzero, -, he⟩ := exec_txAddCmd_cases s
    · cases he.symm.trans h
      rfl
    · cases he.symm.trans h
      exact txWriteCmd_readTx_of_ge _ hzero ((htx.configured hconf).1.trans ha)
  | txAddU16 =>
    rw [(hwrites.txChannel rfl).2.2] at ha
    cases h
    exact txAdd_readTx_of_ge_cap s.dataIn 1 htx.index_le_cap ha
  | txAddU32 | txAddF32 =>
    rw [(hwrites.txChannel rfl).2.2] at ha
    cases h
    exact txAdd_readTx_of_ge_cap s.dataIn 2 htx.index_le_cap ha
  | _ => rw [State.readTx, hwrites.txbuf rfl, hwrites.epoch]; rfl

/-! ## The form of both buffers -/

theorem bufferInv_resetWith (p : Params) (k : Nat) (es : List HostEvent) : BufferInv (State.resetWith p k es) where
  txbuf := Memory.wf_nil p.maxCap
  rxbuf := Memory.wf_nil p.maxCap

/-- A command keeps the form of both buffers: of RXBUF it writes nothing (R55). -/
theorem BufferInv.exec {i : Instr} {s t : State} (hs : BufferInv s) (htx : TxInv s) (h : exec i s = .next t) :
    BufferInv t := by
  have hwrites := WritesOnly.of_exec h
  constructor
  · rw [hwrites.cfg]
    exact exec_keeps_txbuf_wf htx hs.txbuf h
  · rw [hwrites.cfg, hwrites.rxbuf]
    exact hs.rxbuf

/-- Settles O50: TXBUF is written by commands, inside the capacity, and RXBUF through its window, inside MAX_CAP. -/
theorem stepKeepsBufferForm : Obligations.StepKeepsBufferForm := by
  intro s t htx hs h
  obtain ⟨htxbuf, hrxbuf⟩ := hs
  obtain ⟨-, rfl⟩ | ⟨es, -, rfl⟩ | ⟨a, es, -, ha⟩ := step_next h
  · exact ⟨htxbuf, hrxbuf⟩
  · exact bufferInv_resetWith s.cfg (s.epoch + 1) es
  · obtain ⟨-, -, ans, -, rfl⟩ | ⟨w, -, hc⟩ | ⟨v, -, rfl⟩ | ⟨i, b, hi, -, rfl⟩ := portAccess_next ha
    · exact ⟨htxbuf, hrxbuf⟩
    · obtain ⟨i, -, hexec⟩ | ⟨e, -, rfl⟩ := command_next hc
      · exact BufferInv.exec (s := ((s.setPending es).setAnswer .done).setCmd w) ⟨htxbuf, hrxbuf⟩
          (htx.of_txRegs_eq rfl) hexec
      · exact ⟨htxbuf, hrxbuf⟩
    · exact ⟨htxbuf, hrxbuf⟩
    · exact ⟨htxbuf, Memory.wf_write b hrxbuf hi⟩

/-! ## Reset -/

/-- Settles O17: the reset input leaves the state of the next reset number, with the same events waiting. -/
theorem resetInputClearsRegistersAndRedrawsBuffers : Obligations.ResetInputClearsRegistersAndRedrawsBuffers :=
  fun s es hpending => ⟨State.resetWith s.cfg (s.epoch + 1) es, step_cons s .reset es hpending, rfl, rfl, rfl, rfl, rfl,
    rfl, rfl, rfl, rfl, rfl, rfl, rfl, rfl, rfl, fun _ => rfl, fun _ => rfl, rfl, rfl⟩

/-- Settles O18: each field by its definition, and `State.reset` is a reset state. -/
theorem resetStateHoldsTheResetValues : Obligations.ResetStateHoldsTheResetValues :=
  ⟨fun _ _ _ => ⟨rfl, rfl, rfl, rfl, rfl, rfl, rfl, rfl, rfl, rfl, rfl, rfl, rfl, rfl, fun _ => rfl, fun _ => rfl⟩,
    _, _, _, rfl⟩

/-- Settles O51: the reset state meets each invariant, and so does `State.reset`, which is one of the reset states. -/
theorem resetMeetsEveryInvariant : Obligations.ResetMeetsEveryInvariant := by
  have hreset (p : Params) (k : Nat) (es : List HostEvent) :
      TxInv (State.resetWith p k es) ∧ RxInv (State.resetWith p k es) ∧ StatusInv (State.resetWith p k es) ∧
      BufferInv (State.resetWith p k es) :=
    ⟨txInv_resetWith p k es, rxInv_resetWith p k es, statusInv_resetWith p k es, bufferInv_resetWith p k es⟩
  obtain ⟨htx, hrx, hstatus, hbuffers⟩ := hreset Config.resetParams 0 []
  exact ⟨hreset, htx, hrx, hstatus, hbuffers, by decide⟩

end Sys2Proof.Machine
end

section
/-! SUPPORT. What a command depends on (spec/10_state.md R40, R44; spec/30_encoding.md R74): two runs that differ in
STATUS, in the bits of DATA_IN the command does not use and in the bytes of RXBUF that were not received end alike. -/

namespace Sys2Proof.Machine

open Sys2Proof.Claims

/-! ## The operations -/

/-- The state with another STATUS, DATA_IN and RXBUF. -/
abbrev State.withInputs (s : State) (v d : Word) (m : Memory) : State := { s with status := v, dataIn := d, rxbuf := m }

section

variable (s : State) (v d : Word) (m : Memory)

theorem txWriteGroups_withInputs (ds : List Half) (o : Nat) :
    txWriteGroups ds o (s.withInputs v d m) = (txWriteGroups ds o s).withInputs v d m := by
  induction ds generalizing o s with
  | nil => rfl
  | cons x ds ih => exact ih (txWriteGroup x o s) (o + 3)

theorem txWriteCmd_withInputs (c : Half) : txWriteCmd c (s.withInputs v d m) = (txWriteCmd c s).withInputs v d m := by
  unfold txWriteCmd
  by_cases hn : s.txNcmd = 2
  · rw [if_pos hn, if_pos hn]
    rfl
  · rw [if_neg hn, if_neg hn]
    rfl

/-- An add's value is its operand, not DATA_IN again, and it reports over whatever STATUS held. -/
theorem txAdd_withInputs (x : Word) (G : Nat) :
    txAdd x G (s.withInputs v d m) = (txAdd x G s).withInputs (txAdd x G s).status d m := by
  unfold txAdd
  rw [txWriteGroups_withInputs]
  dsimp only
  split_ifs <;> rfl

end

/-- A field of one byte is the low byte of the code, so the high byte does not matter (R100). -/
theorem txWriteCmd_congr {c c' : Half} {s : State} (hlow : lowByte c' = lowByte c)
    (hhigh : s.txNcmd = 2 → highByte c' = highByte c) : txWriteCmd c' s = txWriteCmd c s := by
  unfold txWriteCmd
  split
  next hn => rw [hlow, hhigh hn]
  next => rw [hlow]

/-- The groups gathered are made of the bytes at their offsets (R121). -/
theorem rxGather_congr {s s' : State} {G o : Nat} (h : ∀ a, a < o + 3 * G → s'.readRx a = s.readRx a) (v : Word) :
    rxGather s' G o v = rxGather s G o v := by
  induction G generalizing o v with
  | zero => rfl
  | succ G ih =>
    have hgroup : rxGroup s' o = rxGroup s o := by
      rw [rxGroup, rxGroup, h o (by omega), h (o + 1) (by omega), h (o + 2) (by omega)]
    simp only [rxGather, hgroup]
    split
    next => rfl
    next => exact ih (fun a ha => h a (by omega)) _

/-- A get depends on no byte of RXBUF at or above RX_NUMBYTES (R40, R120). -/
theorem rxGet_withInputs {s : State} {G : Nat} (v d : Word) {m : Memory} (hG : 0 < G)
    (hread : ∀ a, a < s.rxNumBytes.toNat → (s.withInputs v d m).readRx a = s.readRx a) :
    rxGet G (s.withInputs v d m) = (rxGet G s).withInputs (rxGet G s).status d m := by
  have hgather (hroom : 3 * G ≤ s.rxNumBytes.toNat - s.rxIndex.toNat) :
      rxGather (s.withInputs v d m) G s.rxIndex.toNat 0 = rxGather s G s.rxIndex.toNat 0 :=
    rxGather_congr (fun a ha => hread a (by omega)) 0
  obtain ⟨hconf, he⟩ | ⟨hconf, hover, he⟩ | ⟨hconf, hroom, off, hg, he⟩ | ⟨hconf, hroom, w, hg, he⟩ :=
    rxGet_cases G s <;> rw [he]
  · exact rxGet_of_unconfigured (s := s.withInputs v d m) G hconf
  · exact rxGet_of_insufficient (s := s.withInputs v d m) hconf hG (by dsimp only; omega)
  · exact rxGet_of_mismatch (s := s.withInputs v d m) hconf (by dsimp only; omega)
      ((hgather hroom).trans hg)
  · exact rxGet_of_value (s := s.withInputs v d m) hconf (by dsimp only; omega)
      ((hgather hroom).trans hg)

/-! ## The operand of a command -/

/-- Words that agree in their low `k` bits have the same slices below bit `k`. -/
theorem extractLsb'_eq_of_mod_eq {d d' : Word} {k lo len : Nat} (h : d'.toNat % 2 ^ k = d.toNat % 2 ^ k)
    (hlen : lo + len ≤ k) : d'.extractLsb' lo len = d.extractLsb' lo len := by
  apply BitVec.eq_of_getLsbD_eq
  intro i hi
  have hbit := congrArg (Nat.testBit · (lo + i)) h
  simpa [BitVec.getLsbD, hi, show lo + i < k by omega, Nat.testBit_mod_two_pow] using hbit

/-- CRC_CALC of `n` bytes takes the low `8 * n` bits (R74). -/
theorem crcCalcBytes_congr {d d' : Word} {n : Nat} (h : d'.toNat % 2 ^ (8 * n) = d.toNat % 2 ^ (8 * n)) :
    crcCalcBytes n d' = crcCalcBytes n d :=
  List.map_congr_left fun j hj => extractLsb'_eq_of_mod_eq h (by have := List.mem_range.mp hj; omega)

/-- A value of `G` groups is the low `16 * G` bits (R58, R74). -/
theorem valueGroups_congr {d d' : Word} {G : Nat} (h : d'.toNat % 2 ^ (16 * G) = d.toNat % 2 ^ (16 * G)) :
    valueGroups d' G = valueGroups d G :=
  List.map_congr_left fun k hk => extractLsb'_eq_of_mod_eq h (by have := List.mem_range.mp hk; omega)

/-- A command field takes the low bits its length names: 16 for two bytes, 8 for one (R74, R100). -/
theorem commandCode_congr {d d' : Word} {n : BitVec 2} (hzero : n ≠ 0) (hthree : n = 3 → d' = d)
    (h : d'.toNat % 2 ^ (if n = 2 then 16 else if n = 1 then 8 else 0) =
      d.toNat % 2 ^ (if n = 2 then 16 else if n = 1 then 8 else 0)) :
    lowByte (commandCode d') = lowByte (commandCode d) ∧
      (n = 2 → highByte (commandCode d') = highByte (commandCode d)) := by
  simp only [lowByte_commandCode, highByte_commandCode]
  obtain rfl | rfl | rfl : n = 1 ∨ n = 2 ∨ n = 3 := by bv_omega
  · exact ⟨extractLsb'_eq_of_mod_eq h (Nat.le_refl 8), nofun⟩
  · exact ⟨extractLsb'_eq_of_mod_eq h (by decide), fun _ => extractLsb'_eq_of_mod_eq h (Nat.le_refl 16)⟩
  · rw [hthree rfl]
    exact ⟨rfl, fun _ => rfl⟩

/-! ## The commands -/

/-- CRC_CHECK uses the low 24 bits of DATA_IN (R74). -/
theorem exec_crcCheck_withInputs {s : State} (v : Word) {d : Word} (m : Memory)
    (hdata : d.toNat % 2 ^ 24 = s.dataIn.toNat % 2 ^ 24) :
    ∃ t, exec .crcCheck s = .next t ∧
      exec .crcCheck (s.withInputs v d m) = .next { t with dataIn := d, rxbuf := m } := by
  have hhigh : checkHigh d = checkHigh s.dataIn := extractLsb'_eq_of_mod_eq hdata (by decide)
  have hlow : checkLow d = checkLow s.dataIn := extractLsb'_eq_of_mod_eq hdata (by decide)
  have hcrc : checkCrc d = checkCrc s.dataIn := extractLsb'_eq_of_mod_eq hdata (by decide)
  simp only [exec, execCrcCheck, hhigh, hlow, hcrc]
  split_ifs <;> exact ⟨_, rfl, rfl⟩

/-- The command field is written from the bits of DATA_IN it takes (R100). -/
theorem txWriteCmd_ok_withInputs {s : State} (v : Word) {d : Word} (m : Memory)
    (hfield : lowByte (commandCode d) = lowByte (commandCode s.dataIn) ∧
      (s.txNcmd = 2 → highByte (commandCode d) = highByte (commandCode s.dataIn))) :
    (txWriteCmd (commandCode d) (s.withInputs v d m)).ok =
      { (txWriteCmd (commandCode s.dataIn) s).ok with dataIn := d, rxbuf := m } := by
  rw [txWriteCmd_withInputs, txWriteCmd_congr hfield.1 hfield.2]
  rfl

/-- An add is written from the bits of DATA_IN its groups take (R101). -/
theorem txAdd_dataIn_withInputs {s : State} {G : Nat} (v : Word) {d : Word} (m : Memory)
    (hdata : d.toNat % 2 ^ (16 * G) = s.dataIn.toNat % 2 ^ (16 * G)) :
    txAdd d G (s.withInputs v d m) = { txAdd s.dataIn G s with dataIn := d, rxbuf := m } := by
  have hvalue : txAdd d G s = txAdd s.dataIn G s := by rw [txAdd, txAdd, valueGroups_congr hdata]
  rw [txAdd_withInputs, hvalue]

section

variable {i : Instr} {s : State} (v d : Word) (m : Memory)
  (hdata : d.toNat % 2 ^ dataInBits s i = s.dataIn.toNat % 2 ^ dataInBits s i)
  (hncmd : s.txNcmd = 3 → d = s.dataIn)
  (hread : ∀ a, a < s.rxNumBytes.toNat → (s.withInputs v d m).readRx a = s.readRx a)

include hdata hncmd hread

/-- A command does the same whatever STATUS holds, whatever DATA_IN holds above the bits it uses, and whatever RXBUF
holds from RX_NUMBYTES on (R40, R44, R74). TX_NCMD = 3, at which TX_ADD_CMD would use 8 bits, is never held (R36). -/
theorem exec_withInputs :
    ∃ t, exec i s = .next t ∧ exec i (s.withInputs v d m) = .next { t with dataIn := d, rxbuf := m } := by
  cases i with
  | nop => exact ⟨_, rfl, rfl⟩
  | crcCalc len =>
    obtain ⟨hlt, he⟩ | ⟨hle, he⟩ := exec_crcCalc_cases len s
    · exact ⟨_, he, if_pos hlt⟩
    · refine ⟨_, he, (exec_crcCalc_of_le _ hle).trans ?_⟩
      rw [crcCalcBytes_congr hdata]
      rfl
  | crcCheck => exact exec_crcCheck_withInputs v m hdata
  | txInit n cap =>
    obtain ⟨h, he⟩ | ⟨hn, hmax, hfit, he⟩ := exec_txInit_cases n cap s
    · exact ⟨_, he, if_pos h⟩
    · exact ⟨_, he, exec_txInit_of_fits (s := s.withInputs v d m) hn hmax hfit⟩
  | txInitCmd n cap =>
    obtain ⟨h, he⟩ | ⟨hzero, hthree, hmax, hfit, he⟩ := exec_txInitCmd_cases n cap s
    · exact ⟨_, he, if_pos h⟩
    · refine ⟨_, he, (exec_txInitCmd_of_fits (s := s.withInputs v d m) (by bv_omega) hmax hfit).trans ?_⟩
      exact congrArg _ (txWriteCmd_ok_withInputs (s := s.txConfigure n cap) v m
        (commandCode_congr hzero (fun h => absurd h hthree) hdata))
  | txAddCmd =>
    obtain ⟨h, he⟩ | ⟨hconf, hzero, hindex, he⟩ := exec_txAddCmd_cases s
    · exact ⟨_, he, (txAddCmdRule.2 (s.withInputs v d m)).2 h⟩
    · refine ⟨_, he, (exec_txAddCmd_of_ready (s := s.withInputs v d m) hconf hzero hindex).trans ?_⟩
      exact congrArg _ (txWriteCmd_ok_withInputs v m (commandCode_congr hzero hncmd hdata))
  | txAddU16 => exact ⟨_, rfl, congrArg _ (txAdd_dataIn_withInputs (G := 1) v m hdata)⟩
  | txAddU32 | txAddF32 => exact ⟨_, rfl, congrArg _ (txAdd_dataIn_withInputs (G := 2) v m hdata)⟩
  | rxInit cap =>
    obtain ⟨h, he⟩ | ⟨h, he⟩ := exec_rxInit_cases cap s
    · exact ⟨_, he, if_pos h⟩
    · exact ⟨_, he, if_neg (not_lt.mpr h)⟩
  | rxSetLen n =>
    obtain ⟨h, he⟩ | ⟨hconf, hfit, he⟩ := exec_rxSetLen_cases n s
    · exact ⟨_, he, (rxSetLenRule.2 (s.withInputs v d m) n).2 h⟩
    · exact ⟨_, he, (rxSetLenRule.2 (s.withInputs v d m) n).1 hconf hfit⟩
  | rxGetU16 => exact ⟨_, rfl, congrArg _ (rxGet_withInputs v d one_pos hread)⟩
  | rxGetU32 | rxGetF32 => exact ⟨_, rfl, congrArg _ (rxGet_withInputs v d two_pos hread)⟩

end

/-- Settles O42: the two runs differ in STATUS alone, and a command writes neither DATA_IN nor RXBUF. -/
theorem commandsNeverReadStatus : Obligations.CommandsNeverReadStatus := by
  intro i s v
  obtain ⟨t, ht, hrun⟩ := exec_withInputs (i := i) v s.dataIn s.rxbuf rfl (fun _ => rfl) (fun _ _ => rfl)
  have hwrites := WritesOnly.of_exec ht
  exact hrun.trans (by rw [ht, ← hwrites.dataIn, ← hwrites.rxbuf])

/-- Settles O43: the two runs differ in DATA_IN alone. -/
theorem unusedDataInBitsDoNotMatter : Obligations.UnusedDataInBitsDoNotMatter := by
  intro i s d _ hncmd hdata
  have hthree : s.txNcmd ≠ 3 := by bv_omega
  obtain ⟨t, ht, hrun⟩ := exec_withInputs s.status d s.rxbuf hdata (absurd · hthree) fun _ _ => rfl
  exact ⟨t, ht, hrun.trans (by rw [← (WritesOnly.of_exec ht).rxbuf])⟩

/-- Settles O45: the two runs differ in RXBUF alone. -/
theorem commandsReadOnlyReceivedBytes : Obligations.CommandsReadOnlyReceivedBytes := by
  intro i s m hread
  obtain ⟨t, ht, hrun⟩ := exec_withInputs (i := i) s.status s.dataIn m rfl (fun _ => rfl) hread
  exact ⟨t, ht, hrun.trans (by rw [← (WritesOnly.of_exec ht).dataIn])⟩

end Sys2Proof.Machine
end

section
/-! SUPPORT. Frames built by a sequence of adds (spec/41_tx_builder.md R109): what one add appends, the two host
accesses of an add, and the induction over the sequence. -/

namespace Sys2Proof.Claims

open Sys2Proof.Machine

/-! ## The accesses and bytes of one item -/

/-- The word an item's first access writes to DATA_IN. -/
def Item.operand : Item → Word
  | .u16 v => v.setWidth 32
  | .u32 v | .f32 v => v

/-- The command of its second access. -/
def Item.command : Item → Instr
  | .u16 _ => .txAddU16
  | .u32 _ => .txAddU32
  | .f32 _ => .txAddF32

/-- The number of its groups. -/
def Item.count : Item → Nat
  | .u16 _ => 1
  | .u32 _ | .f32 _ => 2

theorem Item.events_eq (p : Params) (x : Item) :
    x.events p = [dataInWrite p x.operand, cmdWrite p (encode x.command)] := by
  cases x <;> rfl

theorem Item.decode_command (x : Item) : decode (encode x.command) = .legal x.command :=
  decodeOfEncodeIsTheCommand _ (by cases x <;> rfl)

/-- An item's command adds its groups from DATA_IN. -/
theorem Item.exec_command (x : Item) (s : State) : exec x.command s = .next (txAdd s.dataIn x.count s) := by
  cases x <;> rfl

/-- An item's bytes are those of its operand's groups (R57, R58). -/
theorem Item.bytes_eq (x : Item) : x.bytes = (valueGroups x.operand x.count).flatMap groupBytes := by
  cases x with
  | u16 v =>
    have hlow : (v.setWidth 32).extractLsb' 0 16 = v := by
      apply BitVec.eq_of_getLsbD_eq
      intro i hi
      simp [hi, show i < 32 by omega]
    simp only [Item.operand, Item.count, valueGroups_one, hlow]
    simp [Item.bytes]
  | u32 v | f32 v =>
    simp [Item.operand, Item.count, valueGroups_two, Item.bytes]

end Sys2Proof.Claims

namespace Sys2Proof.Machine

open Sys2Proof.Claims

/-! ## What one add appends -/

/-- The frame up to and with a group: the bytes below it and the bytes of the group (R57). -/
theorem txWriteGroup_frameBytes (d : Half) (o : Nat) (s : State) :
    (List.range (o + 3)).map (txWriteGroup d o s).readTx = (List.range o).map s.readTx ++ groupBytes d := by
  have hbelow : (List.range o).map (txWriteGroup d o s).readTx = (List.range o).map s.readTx :=
    List.map_congr_left fun j hj => txWriteGroups_outside [d] o j s (.inl (List.mem_range.mp hj))
  obtain ⟨hhigh, hlow, hcrc⟩ := txWriteGroup_holdsGroup d o s
  simp only [List.range_succ, List.map_append, List.map_cons, List.map_nil, hbelow, hhigh, hlow, hcrc,
    List.append_assoc]
  rfl

/-- The frame up to and with groups in a row (R58). -/
theorem txWriteGroups_frameBytes (ds : List Half) (o : Nat) (s : State) :
    (List.range (o + 3 * ds.length)).map (txWriteGroups ds o s).readTx =
      (List.range o).map s.readTx ++ ds.flatMap groupBytes := by
  induction ds generalizing o s with
  | nil => simp [txWriteGroups]
  | cons d ds ih =>
    have hlength : o + 3 * (d :: ds).length = o + 3 + 3 * ds.length := by rw [List.length_cons]; omega
    rw [hlength, txWriteGroups, ih, txWriteGroup_frameBytes, List.flatMap_cons, List.append_assoc]

theorem length_flatMap_groupBytes (ds : List Half) : (ds.flatMap groupBytes).length = 3 * ds.length := by
  rw [List.length_flatMap]
  simp [groupBytes, Nat.mul_comm]

/-- From `s` to `t` a configured TX channel's frame has grown by `bytes`: its other registers are as they were (R109).
-/
structure Appends (s t : State) (bytes : List Byte) : Prop where
  cfg : t.cfg = s.cfg
  txConfigured : t.txConfigured = s.txConfigured
  txNcmd : t.txNcmd = s.txNcmd
  txCap : t.txCap = s.txCap
  index : t.txIndex.toNat = s.txIndex.toNat + bytes.length
  frame : t.txFrame = s.txFrame ++ bytes

theorem Appends.refl (s : State) : Appends s s [] := ⟨rfl, rfl, rfl, rfl, rfl, (List.append_nil _).symm⟩

theorem Appends.trans {s t u : State} {xs ys : List Byte} (h : Appends s t xs) (h' : Appends t u ys) :
    Appends s u (xs ++ ys) where
  cfg := h'.cfg.trans h.cfg
  txConfigured := h'.txConfigured.trans h.txConfigured
  txNcmd := h'.txNcmd.trans h.txNcmd
  txCap := h'.txCap.trans h.txCap
  index := by rw [h'.index, h.index, List.length_append, Nat.add_assoc]
  frame := by rw [h'.frame, h.frame, List.append_assoc]

/-- An add that fits appends its groups (R101). -/
theorem txAdd_appends {s : State} (v : Word) (G : Nat) (hconf : s.txConfigured = true)
    (hfield : s.txNcmd = 0 ∨ s.txNcmd.toNat ≤ s.txIndex.toNat) (hroom : s.txIndex.toNat + 3 * G ≤ s.txCap.toNat) :
    Appends s (txAdd v G s) ((valueGroups v G).flatMap groupBytes) := by
  have hindex : (txAdd v G s).txIndex.toNat = s.txIndex.toNat + 3 * G := by
    rw [txAdd_of_fits v G hconf hfield hroom]
    exact toNat_add_groups (limit := s.txCap) (by omega) (by omega)
  have hwrites := txAdd_frame_of_fits v G hconf hfield hroom
  refine ⟨by rw [hwrites], by rw [hwrites], by rw [hwrites], by rw [hwrites], ?_, ?_⟩
  · rw [hindex, length_flatMap_groupBytes, valueGroups_length]
  · have hbytes := txWriteGroups_frameBytes (valueGroups v G) s.txIndex.toNat s
    rw [valueGroups_length] at hbytes
    rw [State.txFrame, hindex, funext (txAdd_readTx_of_fits v G hconf hfield hroom), hbytes]
    rfl

/-! ## Sequences of adds -/

/-- The state at which an item's command runs: its operand stored, its word in CMD, and `es` still to take. -/
def State.atAdd (s : State) (x : Item) (es : List HostEvent) : State :=
  (((s.setPending es).setAnswer .done).setDataIn x.operand).setCmd (encode x.command)

/-- The two accesses of an add that fits append its bytes and report a success (R79, R101). -/
theorem run_item {s : State} {x : Item} {es : List HostEvent} (hpending : s.pending = x.events s.cfg ++ es)
    (hconf : s.txConfigured = true) (hfield : s.txNcmd = 0 ∨ s.txNcmd.toNat ≤ s.txIndex.toNat)
    (hroom : s.txIndex.toNat + x.bytes.length ≤ s.txCap.toNat) (k : Nat) :
    ∃ t, Host.Core.run core (k + 2) s = Host.Core.run core k t ∧ Appends s t x.bytes ∧ t.pending = es ∧
      statusCode t.status = 0 := by
  rw [Item.events_eq] at hpending
  rw [Item.bytes_eq, length_flatMap_groupBytes, valueGroups_length] at hroom
  have hstore := dataInWriteOnlyStores s (cmdWrite s.cfg (encode x.command) :: es) x.operand hpending
  have hadd : step { s with pending := cmdWrite s.cfg (encode x.command) :: es, answer := some .done,
                            dataIn := x.operand } = .next (txAdd x.operand x.count (s.atAdd x es)) :=
    (step_cmdWrite_of_legal rfl x.decode_command).trans (x.exec_command (s.atAdd x es))
  have hwrites := txAdd_frame_of_fits (s := s.atAdd x es) x.operand x.count hconf hfield hroom
  refine ⟨_, (core_run_succ_of_step (k + 1) hstore).trans (core_run_succ_of_step k hadd), ?_,
    congrArg State.pending hwrites, ?_⟩
  · rw [Item.bytes_eq]
    exact { txAdd_appends (s := s.atAdd x es) x.operand x.count hconf hfield hroom with }
  · rw [hwrites]
    exact report_code (s.atAdd x es) 0 0

/-- Adds that fit, one after another, append their bytes (R109). -/
theorem run_items (items : List Item) : ∀ s : State, s.pending = items.flatMap (Item.events s.cfg) →
    s.txConfigured = true → (s.txNcmd = 0 ∨ s.txNcmd.toNat ≤ s.txIndex.toNat) →
    s.txIndex.toNat + (items.flatMap Item.bytes).length ≤ s.txCap.toNat →
    ∃ t, Host.Core.run core (2 * items.length) s = .next t ∧ Appends s t (items.flatMap Item.bytes) ∧ t.pending = [] ∧
      ((items = [] → statusCode s.status = 0) → statusCode t.status = 0) := by
  induction items with
  | nil => exact fun s hpending _ _ _ => ⟨s, rfl, .refl s, hpending, fun h => h rfl⟩
  | cons x items ih =>
    intro s hpending hconf hfield hroom
    rw [List.flatMap_cons, List.length_append] at hroom
    rw [List.flatMap_cons] at hpending
    obtain ⟨t, hrun, happends, hrest, hcode⟩ := run_item hpending hconf hfield (by omega) (2 * items.length)
    obtain ⟨hcfg, hconf', hncmd, hcap, hindex, -⟩ := id happends
    obtain ⟨u, hrun', happends', hrest', hcode'⟩ := ih t (by rw [hrest, hcfg]) (hconf'.trans hconf)
      (by rw [hncmd]; exact hfield.imp_right fun h => by omega) (by rw [hindex, hcap]; omega)
    exact ⟨u, hrun.trans hrun', by rw [List.flatMap_cons]; exact happends.trans happends', hrest',
      fun _ => hcode' fun _ => hcode⟩

/-- Settles O29: each add appends its groups to the frame the adds before it built. -/
theorem addsAppendTheirGroupsToTheFrame : Obligations.AddsAppendTheirGroupsToTheFrame := by
  intro s items hconf hfield hroom
  obtain ⟨t, hrun, happends, hpending, hcode⟩ :=
    run_items items (s.setPending (items.flatMap (Item.events s.cfg))) rfl hconf hfield hroom
  exact ⟨t, hrun, happends.frame, hpending, fun hne => hcode (absurd · hne)⟩

end Sys2Proof.Machine
end

section
/-! SUPPORT. Gets that succeed (spec/42_rx_decoder.md R120), and a wide get as two narrow ones
(spec/70_reset_and_hazards.md R186). -/

namespace Sys2Proof.Machine

open Sys2Proof.Claims

/-- An error's report is no success. -/
theorem raise_code_ne_zero (s : State) (e : ErrorKind) (off : Nat) : statusCode (s.raise e off).status ≠ 0 := by
  rw [State.raise_status, statusCode_statusWord]
  exact e.code_ne_ok

/-- A get that reports a success had its bytes and found every group valid (R120). -/
theorem rxGet_ok_inv {G : Nat} {s : State} (hcode : statusCode (rxGet G s).status = 0) :
    s.rxConfigured = true ∧ 3 * G ≤ s.rxNumBytes.toNat - s.rxIndex.toNat ∧
      ∃ v, rxGather s G s.rxIndex.toNat 0 = .value v ∧
        rxGet G s =
          { s with result := v, rxIndex := s.rxIndex + BitVec.ofNat 16 (3 * G), status := report s 0 0 } := by
  obtain ⟨-, he⟩ | ⟨-, -, he⟩ | ⟨-, -, off, -, he⟩ | ⟨hconf, hroom, v, hg, he⟩ := rxGet_cases G s
  · exact absurd (he ▸ hcode) (raise_code_ne_zero s _ _)
  · exact absurd (he ▸ hcode) (raise_code_ne_zero s _ _)
  · exact absurd (he ▸ hcode) (raise_code_ne_zero s _ _)
  · exact ⟨hconf, hroom, v, hg, he⟩

/-- One group gathered to a value is a valid group of that value. -/
theorem rxGroup_of_rxGather_one {s : State} {o : Nat} {v : Word} (h : rxGather s 1 o 0 = .value v) :
    ∃ d, rxGroup s o = some d ∧ v = d.setWidth 32 := by
  rw [rxGather_one] at h
  cases hg : rxGroup s o with
  | none =>
    rw [hg] at h
    cases h
  | some d =>
    rw [hg] at h
    exact ⟨d, rfl, (Gathered.value.inj h).symm⟩

/-- Settles O37: each narrow get leaves a valid group behind it, and the wide get gathers the two. -/
theorem wideGetIsTwoNarrowGets : Obligations.WideGetIsTwoNarrowGets := by
  intro i s t u hi ht htcode hu hucode
  obtain rfl : rxGet 1 s = t := Host.Outcome.next.inj ht
  obtain rfl : rxGet 1 (rxGet 1 s) = u := Host.Outcome.next.inj hu
  obtain ⟨hconf, hroom, v, hgather, hfirst⟩ := rxGet_ok_inv htcode
  obtain ⟨-, hroom', v', hgather', hsecond⟩ := rxGet_ok_inv hucode
  have hindex : (rxGet 1 s).rxIndex.toNat = s.rxIndex.toNat + 3 := by
    rw [hfirst]
    exact toNat_add_groups (limit := s.rxNumBytes) (by omega) hroom
  have hnum : (rxGet 1 s).rxNumBytes = s.rxNumBytes := by rw [hfirst]
  rw [hnum, hindex] at hroom'
  obtain ⟨d, hd, rfl⟩ := rxGroup_of_rxGather_one hgather
  obtain ⟨d', hd', rfl⟩ := rxGroup_of_rxGather_one hgather'
  have hd'' : rxGroup s (s.rxIndex.toNat + 3) = some d' := by
    rw [← hindex, ← hd', hfirst]
    rfl
  have hexec : exec i s = .next (rxGet 2 s) := by obtain rfl | rfl := hi <;> rfl
  rw [hexec, hsecond, rxGet_of_value (G := 2) hconf (by omega) (by rw [rxGather_two, hd, hd'']), hfirst]
  simp [BitVec.add_assoc]

end Sys2Proof.Machine
end

section
/-! SUPPORT. Round trips through both channels (spec/42_rx_decoder.md R127): the groups an add leaves in TXBUF, the
host's load of a frame into RXBUF (spec/30_encoding.md R80), and the get of what was loaded. -/

namespace Sys2Proof.Machine

open Sys2Proof.Claims

/-! ## The groups an add leaves -/

/-- An add that reports a success found a channel ready for it and room for its groups (R101). -/
theorem txAdd_ok_inv {v : Word} {G : Nat} {s : State} (hG : 0 < G) (hcode : statusCode (txAdd v G s).status = 0) :
    s.txConfigured = true ∧ (s.txNcmd = 0 ∨ s.txNcmd.toNat ≤ s.txIndex.toNat) ∧
      s.txIndex.toNat + 3 * G ≤ s.txCap.toNat := by
  obtain ⟨-, he⟩ | ⟨-, -, -, he⟩ | ⟨hconf, hfield, hroom, -⟩ := txAdd_cases v G s
  · exact absurd (he ▸ hcode) (raise_code_ne_zero s _ _)
  · exact absurd (he ▸ hcode) (raise_code_ne_zero s _ _)
  · exact ⟨hconf, (not_fieldMissing_iff s).mp hfield, by omega⟩

/-- The bytes of a group in TXBUF are those the host reads out (R57). -/
theorem State.HoldsGroup.bytes {s : State} {o : Nat} {d : Half} (h : s.HoldsGroup o d) :
    [s.readTx o, s.readTx (o + 1), s.readTx (o + 2)] = groupBytes d := by
  obtain ⟨hhigh, hlow, hcrc⟩ := h
  rw [hhigh, hlow, hcrc]
  rfl

/-- An add of one group that fits leaves it at the index (R105). -/
theorem txAdd_one_holdsGroup {s : State} (v : Word) (hconf : s.txConfigured = true)
    (hfield : s.txNcmd = 0 ∨ s.txNcmd.toNat ≤ s.txIndex.toNat) (hroom : s.txIndex.toNat + 3 ≤ s.txCap.toNat) :
    (txAdd v 1 s).HoldsGroup s.txIndex.toNat (v.extractLsb' 0 16) := by
  rw [txAdd_holdsGroup_iff_of_fits v 1 hconf hfield hroom, valueGroups_one]
  exact txWriteGroups_holdsGroup_head _ _ _ s

/-- An add of two groups that fit leaves the high half at the index and the low half after it (R106). -/
theorem txAdd_two_holdsGroups {s : State} (v : Word) (hconf : s.txConfigured = true)
    (hfield : s.txNcmd = 0 ∨ s.txNcmd.toNat ≤ s.txIndex.toNat) (hroom : s.txIndex.toNat + 6 ≤ s.txCap.toNat) :
    (txAdd v 2 s).HoldsGroup s.txIndex.toNat (v.extractLsb' 16 16) ∧
      (txAdd v 2 s).HoldsGroup (s.txIndex.toNat + 3) (v.extractLsb' 0 16) := by
  rw [txAdd_holdsGroup_iff_of_fits v 2 hconf hfield hroom, txAdd_holdsGroup_iff_of_fits v 2 hconf hfield hroom,
    valueGroups_two]
  exact ⟨txWriteGroups_holdsGroup_head _ _ _ s, txWriteGroups_holdsGroup_head _ [] _ _⟩

/-! ## Loading a frame -/

/-- The host writes that put bytes into RXBUF from offset `o` on. -/
def loadFrom (p : Params) (o : Nat) (bytes : List Byte) : List HostEvent :=
  (bytes.zipIdx o).map fun x => .access (.write 8 (p.base + 0x2000 + x.2) x.1)

theorem rxLoad_eq_loadFrom (p : Params) (bytes : List Byte) : rxLoad p bytes = loadFrom p 0 bytes := rfl

/-- What the load leaves as it was, of what the commands after it use, with `es` still to take. -/
structure LoadFrame (s t : State) (es : List HostEvent) : Prop where
  pending : t.pending = es
  cfg : t.cfg = s.cfg
  configured : t.rxConfigured = s.rxConfigured
  cap : t.rxCap = s.rxCap
  result : t.result = s.result

/-- Window writes below MAX_CAP leave their bytes in RXBUF, and the RX channel's registers and RESULT alone (R51,
R80). -/
theorem run_loadFrom (bytes : List Byte) (es : List HostEvent) (k : Nat) : ∀ (o : Nat) (s : State),
    s.pending = loadFrom s.cfg o bytes ++ es → o + bytes.length ≤ s.cfg.maxCap → s.cfg.maxCap ≤ 0x1000 →
    ∃ t : State, Host.Core.run core (k + bytes.length) s = Host.Core.run core k t ∧ LoadFrame s t es ∧
      (∀ a, a < o → t.readRx a = s.readRx a) ∧ ∀ j b, bytes[j]? = some b → t.readRx (o + j) = b := by
  induction bytes with
  | nil => exact fun o s hpending _ _ => ⟨s, rfl, ⟨hpending, rfl, rfl, rfl, rfl⟩, fun _ _ => rfl, nofun⟩
  | cons x bytes ih =>
    intro o s hpending hfit hmax
    rw [List.length_cons] at hfit
    have hstep := step_writeRx (es := loadFrom s.cfg (o + 1) bytes ++ es) hpending (by omega) hmax
    obtain ⟨t, hrun, ⟨hpending', hcfg, hconf, hcap, hresult⟩, hbelow, hbytes⟩ :=
      ih (o + 1) (((s.setPending (loadFrom s.cfg (o + 1) bytes ++ es)).setAnswer .done).writeRx o x) rfl
        (by rw [Nat.add_right_comm]; exact hfit) hmax
    have hread (a : Nat) (ha : a < o + 1) : t.readRx a = if a = o then x else s.readRx a := by
      rw [hbelow a ha, State.writeRx_readRx, State.setAnswer_readRx, State.setPending_readRx]
    refine ⟨t, (core_run_succ_of_step _ hstep).trans hrun, ⟨hpending', hcfg, hconf, hcap, hresult⟩, fun a ha => ?_,
      fun j b hb => ?_⟩
    · rw [hread a (by omega), if_neg (by omega)]
    · cases j with
      | zero =>
        rw [Nat.add_zero, hread o (by omega), if_pos rfl]
        exact Option.some.inj hb
      | succ j =>
        have := hbytes j b hb
        rwa [Nat.add_right_comm, Nat.add_assoc] at this

/-- A CMD write of RX_SET_LEN with a length that fits (R123). -/
theorem step_rxSetLen_of_fits {s : State} {n : Half} {es : List HostEvent}
    (hpending : s.pending = cmdWrite s.cfg (encode (.rxSetLen n)) :: es) (hconf : s.rxConfigured = true)
    (hfit : n.toNat ≤ s.rxCap.toNat) :
    step s = .next ((((s.setPending es).setAnswer .done).setCmd (encode (.rxSetLen n))).setRxLen n).ok :=
  (step_cmdWrite_of_legal hpending (decodeOfEncodeIsTheCommand (.rxSetLen n) rfl)).trans
    ((rxSetLenRule.2 _ n).1 hconf hfit)

/-- The RX channel is configured and has received exactly `bytes`, none of them taken yet. -/
structure State.Received (s : State) (bytes : List Byte) : Prop where
  configured : s.rxConfigured = true
  index : s.rxIndex = 0
  length : s.rxNumBytes.toNat = bytes.length
  byte : ∀ j b, bytes[j]? = some b → s.readRx j = b

/-- RX_LOAD and a get (R79, R80): the get runs on a channel that has received exactly the bytes. -/
theorem run_load_get {r : State} {bytes : List Byte} {n : Half} {get : Word} {i : Instr} {G : Nat} (hwf : r.cfg.wf)
    (hconf : r.rxConfigured = true) (hlength : bytes.length = n.toNat) (hcap : n.toNat ≤ r.rxCap.toNat)
    (hmax : r.rxCap.toNat ≤ r.cfg.maxCap) (hget : decode get = .legal i) (hexec : ∀ s, exec i s = .next (rxGet G s)) :
    ∃ s : State, s.Received bytes ∧ s.result = r.result ∧
      Host.Core.run core (2 + bytes.length)
        { r with pending := rxLoad r.cfg bytes ++ [cmdWrite r.cfg (encode (.rxSetLen n)), cmdWrite r.cfg get] } =
          .next (rxGet G s) := by
  obtain ⟨t, hrun, ⟨hpending, hcfg, hconf', hcap', hresult⟩, -, hbytes⟩ := run_loadFrom bytes
    [cmdWrite r.cfg (encode (.rxSetLen n)), cmdWrite r.cfg get] 2 0 (r.setPending (rxLoad r.cfg bytes ++ _))
    (congrArg (· ++ _) (rxLoad_eq_loadFrom r.cfg bytes))
    (by rw [Nat.zero_add, hlength]; exact hcap.trans hmax) hwf.2.1
  have hset := step_rxSetLen_of_fits (s := t) (n := n) (es := [cmdWrite t.cfg get]) (by rw [hpending, hcfg]; rfl)
    (hconf'.trans hconf) (by rw [hcap']; exact hcap)
  refine ⟨_, ?_, ?_, hrun.trans ((core_run_succ_of_step 1 hset).trans (core_run_succ_of_step 0
    ((step_cmdWrite_of_legal (es := []) rfl hget).trans (hexec _))))⟩
  · refine ⟨hconf'.trans hconf, rfl, hlength.symm, fun j b hb => ?_⟩
    have := hbytes j b hb
    rwa [Nat.zero_add] at this
  · exact hresult

theorem State.Received.index_toNat {s : State} {bytes : List Byte} (h : s.Received bytes) : s.rxIndex.toNat = 0 := by
  rw [h.index]
  rfl

/-- Where enough bytes were received for a get, there is room for it from index 0. -/
theorem State.Received.room {s : State} {bytes : List Byte} {k : Nat} (h : s.Received bytes) (hk : bytes.length = k) :
    s.rxIndex.toNat + k ≤ s.rxNumBytes.toNat := by
  rw [h.index_toNat, h.length, hk, Nat.zero_add]

/-! ## Received groups -/

/-- Three received bytes with the last the checksum of the others are a valid group (R121). -/
theorem State.Received.rxGroup_eq_some {s : State} {bytes : List Byte} {o : Nat} {d : Half} (h : s.Received bytes)
    (hgroup : (bytes.drop o).take 3 = groupBytes d) : rxGroup s o = some d := by
  have hbyte (j : Nat) (hj : j < 3) (b : Byte) (hb : (groupBytes d)[j]? = some b) : s.readRx (o + j) = b := by
    apply h.byte
    rw [← hgroup, List.getElem?_take_of_lt hj, List.getElem?_drop] at hb
    exact hb
  have hhigh := hbyte 0 (by decide) _ rfl
  have hlow := hbyte 1 (by decide) _ rfl
  have hcrc := hbyte 2 (by decide) _ rfl
  rw [Nat.add_zero] at hhigh
  rw [rxGroup_of_crc (by rw [hhigh, hlow, hcrc]), hhigh, hlow]
  exact congrArg some (groupValue_bytes d)

/-! ## The round trips -/

/-- Three received bytes with the last not the checksum of the others are no valid group (R121). -/
theorem State.Received.rxGroup_eq_none {s : State} {p q c : Byte} (h : s.Received [p, q, c]) (hcrc : crc8 [p, q] ≠ c) :
    rxGroup s 0 = none :=
  rxGroup_of_crc_ne (by rwa [h.byte 0 p rfl, h.byte 1 q rfl, h.byte 2 c rfl])

/-- A group with any one bit flipped fails its check (R94). -/
theorem flipBit_groupBytes {k : Nat} (hk : k < 24) (d : Half) :
    ∃ p q c, flipBit k (groupBytes d) = [p, q, c] ∧ crc8 [p, q] ≠ c := by
  obtain ⟨x, y, z, hflip, hdiff⟩ := flipBit_triple hk (highByte d) (lowByte d) (crc8 [highByte d, lowByte d])
  exact ⟨_, _, _, hflip, crc8_pair_xor_ne hdiff⟩

/-- Settles O35: the get finds the loaded bytes, which are a valid group, or one whose check a flipped bit makes fail.
-/
theorem roundTripOfU16 : Obligations.RoundTripOfU16 := by
  intro s t r g ht hcode hg hwf hconf hcap hmax
  obtain rfl : txAdd s.dataIn 1 s = t := Host.Outcome.next.inj ht
  obtain ⟨htx, hfield, hroom⟩ := txAdd_ok_inv one_pos hcode
  obtain rfl := hg.trans (txAdd_one_holdsGroup s.dataIn htx hfield hroom).bytes
  generalize s.dataIn.extractLsb' 0 16 = d
  have hget : decode 0x00000022 = .legal .rxGetU16 := decodeOfEncodeIsTheCommand .rxGetU16 rfl
  refine ⟨?_, fun k hk => ?_⟩
  · obtain ⟨l, hl, -, hrun⟩ := run_load_get (bytes := groupBytes d) (n := 3) hwf hconf rfl hcap hmax hget fun _ => rfl
    have hvalue := rxGet_of_value (G := 1) hl.configured (hl.room rfl)
      (by rw [hl.index_toNat, rxGather_one, hl.rxGroup_eq_some (o := 0) rfl])
    rw [hvalue] at hrun
    exact ⟨_, hrun, report_code l 0 0, rfl⟩
  · obtain ⟨p, q, c, hflip, hcrc⟩ := flipBit_groupBytes hk d
    rw [hflip]
    obtain ⟨l, hl, hresult, hrun⟩ := run_load_get (bytes := [p, q, c]) (n := 3) hwf hconf rfl hcap hmax hget
      fun _ => rfl
    have hmismatch := rxGet_of_mismatch (G := 1) hl.configured (hl.room rfl)
      (by rw [hl.index_toNat, rxGather_one, hl.rxGroup_eq_none hcrc])
    rw [hmismatch] at hrun
    exact ⟨_, hrun, report_code l _ 3, hresult⟩

/-- A word is its two halves, the high one shifted up (R125). -/
theorem halves_shiftLeft_or (w : Word) :
    (w.extractLsb' 16 16).setWidth 32 <<< 16 ||| (w.extractLsb' 0 16).setWidth 32 = w := by
  apply BitVec.eq_of_getLsbD_eq
  intro i hi
  by_cases h : i < 16
  · simp [hi, h]
  · simp [hi, h, show i - 16 < 16 by omega, show 16 + (i - 16) = i by omega]

/-- Settles O36: the get finds the loaded bytes, which are two valid groups, the high half first. -/
theorem roundTripOfU32AndF32 : Obligations.RoundTripOfU32AndF32 := by
  intro i get s t r g hi ht hcode hg hwf hconf hcap hmax
  obtain ⟨get', hget, hexec, hadd⟩ : ∃ get', decode get = .legal get' ∧ (∀ l, exec get' l = .next (rxGet 2 l)) ∧
      exec i s = .next (txAdd s.dataIn 2 s) := by
    obtain ⟨rfl, rfl⟩ | ⟨rfl, rfl⟩ := hi
    · exact ⟨.rxGetU32, decodeOfEncodeIsTheCommand .rxGetU32 rfl, fun _ => rfl, rfl⟩
    · exact ⟨.rxGetF32, decodeOfEncodeIsTheCommand .rxGetF32 rfl, fun _ => rfl, rfl⟩
  obtain rfl : txAdd s.dataIn 2 s = t := Host.Outcome.next.inj (hadd.symm.trans ht)
  obtain ⟨htx, hfield, hroom⟩ := txAdd_ok_inv two_pos hcode
  obtain ⟨hhigh, hlow⟩ := txAdd_two_holdsGroups s.dataIn htx hfield hroom
  obtain rfl : g = groupBytes (s.dataIn.extractLsb' 16 16) ++ groupBytes (s.dataIn.extractLsb' 0 16) := by
    rw [hg, ← hhigh.bytes, ← hlow.bytes]
    rfl
  obtain ⟨l, hl, -, hrun⟩ := run_load_get (bytes := groupBytes _ ++ groupBytes _) (n := 6) hwf hconf rfl hcap hmax
    hget hexec
  have hvalue := rxGet_of_value (G := 2) hl.configured (hl.room rfl)
    (by rw [hl.index_toNat, rxGather_two, hl.rxGroup_eq_some (o := 0) rfl, hl.rxGroup_eq_some (o := 0 + 3) rfl])
  rw [hvalue] at hrun
  exact ⟨_, hrun, report_code l 0 0, halves_shiftLeft_or s.dataIn⟩

end Sys2Proof.Machine
end
